-- ==== Sys2Proof/Config.lean ====
section
/-! DEFINITION. What an implementation fixes (00_scope.md R11, R12, R15; 10_state.md R49): the
parameters the spec leaves open. They are read-only once the core runs; State carries them so that
every statement holds for every legal choice (log 6). The parameters the spec fixes are in
Machine/Params.lean. The one uninterpreted constant stands for the console's drive where nothing fixes
it (20_memory.md R84). -/

namespace Sys2Proof

/-- The open parameters of the core (R49). -/
structure Config where
  /-- `K`, engine cycles per 1 microsecond slice (R11; legal when at least 9). -/
  k : Nat
  /-- `QDEPTH`, entries of each queue (R12; legal when at least 1). -/
  qdepth : Nat
  /-- `TICKS_PER_CYCLE` (R15). The spec gives it no legal range and no refusal. DESIGN CHOICE (log 24):
  every natural number is admitted, 0 too, with which the tick counter stands still against duty (2) of
  60_exceptions.md R332 and no receive with a budget above 0 ever expires. -/
  ticksPerCycle : Nat
  deriving DecidableEq, Repr

/-- The values of 92_eei_decisions.md: `K = 10` (D1), `QDEPTH = 4` (D2), `TICKS_PER_CYCLE = 1` (D16). -/
def Config.standard : Config := { k := 10, qdepth := 4, ticksPerCycle := 1 }

/-- Free value: whether the console of number `stream` pulls the wire low in engine cycle `cycle`. "An
input of the step relation that no rule constrains" (20_memory.md R84): it has no body, so what is
proved with it holds for every drive (log 1). -/
opaque Config.consoleDrivesLow (stream cycle : Nat) : Bool

end Sys2Proof
end

