-- ==== Sys2Proof/Word.lean ====
section
/-! DEFINITION. The word types of JOYBUS-CORE (00_scope.md R13, R18): an 8-bit byte (command byte,
receive-queue entry, input buffer) and the 32-bit engine input word. Bit 0 is the least significant. -/

namespace Sys2Proof

/-- `RXE_WIDTH = 8`, `CMD8` and every reply byte (R13, R121, R130). -/
abbrev Byte := BitVec 8

/-- `TXW_WIDTH = 32`, the engine input word and the output buffer `osr` (R13, R128). -/
abbrev Word := BitVec 32

end Sys2Proof
end

