-- ==== Sys2Proof/Syntax.lean ====
section
/-! DEFINITION. The instructions: one constructor per row of spec/opcode_table.json (30_encoding.md
R141), in the table's order. `Hs` is the suffix `.HS` (decoded in phase Handshaking), `Ss` the
suffix `.SS` (decoded in phase Idle). -/

namespace Sys2Proof

/-- The 17 rows of the opcode table. -/
inductive Instr where
  /-- PROBE.HS, command byte 0x00 in Handshaking (R265). -/
  | probeHs
  /-- RESET.HS, command byte 0xFF in Handshaking (R266). -/
  | resetHs
  /-- ORIGIN.HS, command byte 0x41 in Handshaking (R267). -/
  | originHs
  /-- RECAL.HS, command byte 0x42 in Handshaking (R268). -/
  | recalHs
  /-- POLL.HS, command byte 0x40 in Handshaking (R269). -/
  | pollHs
  /-- UNK.HS, any other command byte in Handshaking (R270). -/
  | unkHs (op : Byte)
  /-- PROBE.SS, command byte 0x00 in Idle (R273). -/
  | probeSs
  /-- RESET.SS, command byte 0xFF in Idle (R274). -/
  | resetSs
  /-- ORIGIN.SS, command byte 0x41 in Idle (R275). -/
  | originSs
  /-- RECAL.SS, command byte 0x42 in Idle (R276). -/
  | recalSs
  /-- POLL.SS, command byte 0x40 in Idle (R277). -/
  | pollSs
  /-- UNK.SS, any other command byte in Idle (R278). -/
  | unkSs (op : Byte)
  /-- TXW.MORE, an engine input word whose `last` bit is 0 (R128). The bits `[22:0]` are an operand,
  because a word may hold any value there (93_implementation_defined.md U17). -/
  | txwMore (data : Byte) (ignored : BitVec 23)
  /-- TXW.LAST, an engine input word whose `last` bit is 1 (R128). -/
  | txwLast (data : Byte) (ignored : BitVec 23)
  /-- CELL.0, the bit cell of a 0 (R126). -/
  | cell0
  /-- CELL.1, the bit cell of a 1 (R126). -/
  | cell1
  /-- CELL.STOP, the stop cell (R127). -/
  | cellStop
  deriving DecidableEq, Repr

end Sys2Proof
end

