-- ==== Sys2Proof/WellFormed.lean ====
section
/-! DEFINITION. Which terms of `Instr` are instructions: an Unknown command carries a byte that is
none of the five recognised ones (30_encoding.md R122, R124). Every other term is an instruction:
the two engine input words admit every payload byte and every ignored field (R128, U17). -/

namespace Sys2Proof

/-- The five recognised command values of R122. -/
def recognisedCommands : List Byte := [0x00#8, 0xFF#8, 0x41#8, 0x42#8, 0x40#8]

/-- An instruction the encodings of 30_encoding.md can express. -/
def Instr.wellFormed : Instr → Bool
  | .unkHs op => !recognisedCommands.contains op
  | .unkSs op => !recognisedCommands.contains op
  | .probeHs | .resetHs | .originHs | .recalHs | .pollHs => true
  | .probeSs | .resetSs | .originSs | .recalSs | .pollSs => true
  | .txwMore _ _ | .txwLast _ _ => true
  | .cell0 | .cell1 | .cellStop => true

end Sys2Proof
end

