-- ==== Sys2Proof/Decode.lean ====
section
/-! DEFINITION. Decoding and encoding (30_encoding.md R120 to R130, R141). The same bits mean
different rows in different places, so a decoding names the place it reads from: a command byte in
one of the two phases that decode commands (R125), an entry of the transmit queue, a cell of the
wire before or at the end of a frame (R127: the stop cell "is told apart only by coming after the
byte whose `last` flag is set"). -/

namespace Sys2Proof

/-- Where an encoded object is read. -/
inductive Space where
  /-- A received byte while `phase = Handshaking` (rows `.HS`). -/
  | handshaking
  /-- A received byte while `phase = Idle` (rows `.SS`). -/
  | idle
  /-- An engine input word taken from TXQ. -/
  | transmit
  /-- A cell of the wire that carries a data bit. -/
  | dataCell
  /-- The cell after the byte whose `last` flag is set. -/
  | stopCell
  deriving DecidableEq, Repr

/-- The encoded objects with a bit pattern (R141): `CMD8`, `TXW32` and `CELL` (bit 3 is the first
slice driven). -/
inductive Code where
  | cmd8 (op : Byte)
  | txw32 (w : Word)
  | cell (slices : BitVec 4)
  deriving DecidableEq, Repr

/-- Why a decoding is rejected. -/
inductive DecodeError where
  /-- The object is not of the format this place holds. -/
  | wrongFormat
  /-- The four slices are no bit cell (R126). -/
  | notABitCell
  /-- The four slices are no stop cell (R127). -/
  | notAStopCell
  deriving DecidableEq, Repr

/-- The answer of the decoder. -/
inductive Decoded where
  | ok (i : Instr)
  | rejected (e : DecodeError)
  deriving DecidableEq, Repr

/-- The tag of a command byte (R122, R123). -/
inductive Command where
  | probe | reset | origin | recalibrate | poll | unknown
  deriving DecidableEq, Repr

/-- `Classify(b)`, "derived by exact value match" (R123). -/
def classify (b : Byte) : Command :=
  if b = 0x00#8 then .probe
  else if b = 0xFF#8 then .reset
  else if b = 0x41#8 then .origin
  else if b = 0x42#8 then .recalibrate
  else if b = 0x40#8 then .poll
  else .unknown

/-- A command byte in phase Handshaking (R264 to R270). -/
def decodeHandshaking (b : Byte) : Instr :=
  match classify b with
  | .probe => .probeHs
  | .reset => .resetHs
  | .origin => .originHs
  | .recalibrate => .recalHs
  | .poll => .pollHs
  | .unknown => .unkHs b

/-- A command byte in phase Idle (R272 to R278). -/
def decodeIdle (b : Byte) : Instr :=
  match classify b with
  | .probe => .probeSs
  | .reset => .resetSs
  | .origin => .originSs
  | .recalibrate => .recalSs
  | .poll => .pollSs
  | .unknown => .unkSs b

/-- `data[31:24]` of an engine input word (R128). -/
def txwData (w : Word) : Byte := w.extractLsb' 24 8

/-- `last[23]` of an engine input word (R128). -/
def txwLastFlag (w : Word) : Bool := w.getLsbD 23

/-- `ignored[22:0]` of an engine input word (R128). -/
def txwIgnored (w : Word) : BitVec 23 := w.extractLsb' 0 23

/-- An engine input word: the last flag selects the row (R128). -/
def decodeTxw (w : Word) : Instr :=
  if txwLastFlag w then .txwLast (txwData w) (txwIgnored w)
  else .txwMore (txwData w) (txwIgnored w)

/-- A data cell: high, low, then two slices of the bit's value (R126). -/
def decodeDataCell (p : BitVec 4) : Decoded :=
  if p = 0b1000#4 then .ok .cell0
  else if p = 0b1011#4 then .ok .cell1
  else .rejected .notABitCell

/-- The stop cell: high, low, high, high (R127). -/
def decodeStopCell (p : BitVec 4) : Decoded :=
  if p = 0b1011#4 then .ok .cellStop else .rejected .notAStopCell

/-- The decoder, total on every encoded object in every place. -/
def decode (sp : Space) (x : Code) : Decoded :=
  match sp, x with
  | .handshaking, .cmd8 b => .ok (decodeHandshaking b)
  | .idle, .cmd8 b => .ok (decodeIdle b)
  | .transmit, .txw32 w => .ok (decodeTxw w)
  | .dataCell, .cell p => decodeDataCell p
  | .stopCell, .cell p => decodeStopCell p
  | _, _ => .rejected .wrongFormat

/-- The place an instruction is read from. -/
def Instr.space : Instr → Space
  | .probeHs | .resetHs | .originHs | .recalHs | .pollHs | .unkHs _ => .handshaking
  | .probeSs | .resetSs | .originSs | .recalSs | .pollSs | .unkSs _ => .idle
  | .txwMore _ _ | .txwLast _ _ => .transmit
  | .cell0 | .cell1 => .dataCell
  | .cellStop => .stopCell

/-- The bits of a `TXW32` from its three fields, `data ++ last ++ ignored` (R120, R128). -/
def packTxw (data : Byte) (last : BitVec 1) (ignored : BitVec 23) : Word :=
  (data ++ last) ++ ignored

/-- The encoder: the object an instruction stands for (R122, R126, R127, R128). -/
def encode : Instr → Code
  | .probeHs => .cmd8 0x00#8
  | .resetHs => .cmd8 0xFF#8
  | .originHs => .cmd8 0x41#8
  | .recalHs => .cmd8 0x42#8
  | .pollHs => .cmd8 0x40#8
  | .unkHs op => .cmd8 op
  | .probeSs => .cmd8 0x00#8
  | .resetSs => .cmd8 0xFF#8
  | .originSs => .cmd8 0x41#8
  | .recalSs => .cmd8 0x42#8
  | .pollSs => .cmd8 0x40#8
  | .unkSs op => .cmd8 op
  | .txwMore data ignored => .txw32 (packTxw data 0#1 ignored)
  | .txwLast data ignored => .txw32 (packTxw data 1#1 ignored)
  | .cell0 => .cell 0b1000#4
  | .cell1 => .cell 0b1011#4
  | .cellStop => .cell 0b1011#4

/-- One `CMD8` row of the table: `(byte & mask) = match` selects it (R141). -/
structure CommandRow where
  value : Byte
  mask : Byte
  tag : Command
  deriving DecidableEq, Repr

/-- The `CMD8` rows of one phase in file order; the Unknown row stands last and takes every byte no
earlier row took (R141). -/
def commandRows : List CommandRow :=
  [ ⟨0x00#8, 0xFF#8, .probe⟩, ⟨0xFF#8, 0xFF#8, .reset⟩, ⟨0x41#8, 0xFF#8, .origin⟩,
    ⟨0x42#8, 0xFF#8, .recalibrate⟩, ⟨0x40#8, 0xFF#8, .poll⟩, ⟨0x00#8, 0x00#8, .unknown⟩ ]

/-- The tag of the first row that matches a byte (R141). -/
def firstMatchingTag (b : Byte) : Option Command :=
  (commandRows.find? fun r => b &&& r.mask == r.value).map (·.tag)

/-- The encoded object whose bits are `w`, by the number of bits: 8 is a command byte, 9 to 32 an
engine input word whose missing high bits are 0, 4 a cell (its first slice in bit 3). -/
def tableCode (nbits w : Nat) : Option Code :=
  if w < 2 ^ nbits then
    if nbits = 8 then some (.cmd8 (BitVec.ofNat 8 w))
    else if 8 < nbits ∧ nbits ≤ 32 then some (.txw32 (BitVec.ofNat 32 w))
    else if nbits = 4 then some (.cell (BitVec.ofNat 4 w))
    else none
  else none

/-- The place the first instruction after reset of each format is read from: a command byte in
Handshaking, a word in TXQ, a data cell (log 9). -/
def tableSpace : Code → Space
  | .cmd8 _ => .handshaking
  | .txw32 _ => .transmit
  | .cell _ => .dataCell

/-- The instruction the decoder reads from an instruction whose bits are `w` (log 9). -/
def decodeTableWord (nbits w : Nat) : Option Instr :=
  match tableCode nbits w with
  | some x =>
    match decode (tableSpace x) x with
    | .ok i => some i
    | .rejected _ => none
  | none => none

end Sys2Proof
end

