-- ==== Sys2Proof/Machine/State.lean ====
section
/-! DEFINITION. The state of JOYBUS-CORE as plain data (10_state.md R30 to R54), the reasons a step
stops, and the state after reset. -/

namespace Sys2Proof.Machine

/-- The execution cursor's values (R31, R161): 23 micro-states and the value before `init`. -/
inductive Cursor where
  | unstarted
  | rdEntry | rdWaitHigh | rdWaitLow | rdSample | rdPushStall
  | wrEntry | wrHigh | wrPull | wrShift | wrTest9 | wrTestStop | wrPull2 | wrShift2 | wrJmpFast
  | wrPadBit | wrPadFast | wrLow | wrVal | wrLoop
  | wrPadStop | wrStopLow | wrStopHigh | wrToRead
  deriving DecidableEq, Repr

/-- Line Direction (R33). -/
inductive Direction where
  | input | output
  deriving DecidableEq, Repr

/-- The console's drive of the wire in one cycle (R84). -/
inductive Drive where
  | release | driveLow
  deriving DecidableEq, Repr

/-- The console's drive in the cycles after its script (R84; log 1). -/
inductive ConsoleRest where
  /-- The same drive for ever: a console that has left the wire alone, or one that never lets it go,
  which breaks the first duty of 60_exceptions.md R342. -/
  | hold (d : Drive)
  /-- Any drive: in each cycle what the uninterpreted `Config.consoleDrivesLow` says of this number. -/
  | free (stream : Nat)
  deriving DecidableEq, Repr

/-- The Controller Input Snapshot (R139). -/
structure Snapshot where
  a : Bool
  b : Bool
  x : Bool
  y : Bool
  start : Bool
  dpadLeft : Bool
  dpadRight : Bool
  dpadDown : Bool
  dpadUp : Bool
  z : Bool
  rDigital : Bool
  lDigital : Bool
  stickX : Byte
  stickY : Byte
  cstickX : Byte
  cstickY : Byte
  lAnalog : Byte
  rAnalog : Byte
  deriving DecidableEq, Repr

/-- No button pressed, every analog byte 0: also what the field `snapshot` holds while no operation
holds a snapshot (log 19). -/
def Snapshot.clear : Snapshot :=
  { a := false, b := false, x := false, y := false, start := false, dpadLeft := false,
    dpadRight := false, dpadDown := false, dpadUp := false, z := false, rDigital := false,
    lDigital := false, stickX := 0, stickY := 0, cstickX := 0, cstickY := 0, lAnalog := 0,
    rAnalog := 0 }

/-- The Session's state (R45), and `noSession` for the "(no session)" of R262. -/
inductive Phase where
  | noSession | handshaking | idle
  | respondingResetOrProbe | respondingRecalOrOrigin | respondingPoll
  | errorRecovery | pollPending | failed
  deriving DecidableEq, Repr

/-- What the received byte, or its absence, is for: the continuation of `receive_byte` (R224). -/
inductive RecvFor where
  /-- A `receive_byte` of the caller's own. -/
  | direct
  /-- The one receive of `handshake` (R264). -/
  | handshake
  /-- A receive of the loop of `wait_for_poll` (R272). -/
  | waitForPoll
  /-- A discarded receive of `respond_to_poll`, `left` of them still to be made, this one included (R282). -/
  | discard (left : Nat)
  deriving DecidableEq, Repr

/-- What follows a `send_bytes` (R226). -/
inductive SendFor where
  | direct | handshake | waitForPoll | respond
  deriving DecidableEq, Repr

/-- Which operation runs ErrorRecovery, hence where it returns (R329). -/
inductive RecoverFor where
  | handshake | waitForPoll
  deriving DecidableEq, Repr

/-- What follows a `delay_us`. -/
inductive AfterDelay where
  /-- `Reply(payload)`: the send after `D_RESP` (R281). -/
  | reply (payload : List Byte) (k : SendFor)
  /-- ErrorRecovery: the restart after `D_UNKNOWN` (R280). -/
  | recover (k : RecoverFor)
  /-- The discards after `D_POLL_PRE` (R282). -/
  | discards
  /-- The report after `D_POLL_SETTLE` (R282). -/
  | report
  deriving DecidableEq, Repr

/-- The host's position inside the operation it is executing, with that operation's locals (R47). -/
inductive HostPos where
  /-- Outside every operation. -/
  | outside
  /-- `receive_byte`, about to read `t0 <- Tick()`. -/
  | readTick (timeout : Nat) (k : RecvFor)
  /-- `receive_byte`, about to test the queue. -/
  | testQueue (timeout t0 : Nat) (k : RecvFor)
  /-- `receive_byte`, about to test the elapsed ticks. -/
  | testClock (timeout t0 : Nat) (k : RecvFor)
  /-- `handshake` or `wait_for_poll`, about to dispatch the received byte. -/
  | dispatch (b : Byte)
  /-- Inside `delay_us`, which does not return before cycle `deadline`. -/
  | delay (deadline : Nat) (k : AfterDelay)
  /-- `send_bytes`, about to read `Line()`. -/
  | waitLine (payload : List Byte) (k : SendFor)
  /-- `send_bytes`, about to restart the engine for write. -/
  | restartWrite (payload : List Byte) (k : SendFor)
  /-- `send_bytes`, about to push byte `i`. -/
  | push (payload : List Byte) (i : Nat) (k : SendFor)
  /-- ErrorRecovery, about to restart the engine for read. -/
  | recoverRestart (k : RecoverFor)
  deriving DecidableEq, Repr

/-- The operations a caller may invoke (R142). -/
inductive HostOp where
  | init
  | restartForRead
  | restartForWrite
  | receiveByte (timeout : Nat)
  | sendBytes (payload : List Byte)
  | handshake (timeout : Nat) (snapshot : Snapshot)
  | waitForPoll
  | respondToPoll (snapshot : Snapshot)
  deriving DecidableEq, Repr

/-- The thread a call comes from; the core allows one (R52, R331). -/
inductive Thread where
  | host | second
  deriving DecidableEq, Repr

/-- A call the caller makes. -/
structure Call where
  thread : Thread
  op : HostOp
  deriving DecidableEq, Repr

/-- What an operation gives its caller when it returns (R224, R264, R320, R361). -/
inductive Result where
  /-- `init`: a transport no session owns. -/
  | transport
  /-- An operation without a result. -/
  | done
  /-- `Byte(b)`. -/
  | byte (b : Byte)
  /-- The outcome `NoData`. -/
  | noData
  /-- `Session(ft, timeout)`. -/
  | session
  /-- The outcome `HandshakeFailure(ft)`. -/
  | handshakeFailure
  deriving DecidableEq, Repr

/-- The two agents of R22. -/
inductive Agent where
  | host | engine
  deriving DecidableEq, Repr

/-- The whole machine. -/
structure State where
  /-- The configuration, never written (R49, log 6). -/
  cfg : Config
  /-- `cursor` (R31). -/
  cursor : Cursor
  /-- `ctr` (R32). -/
  ctr : Nat
  /-- `dir` (R33). -/
  dir : Direction
  /-- `pin_out` (R34); `true` is high. -/
  pinOut : Bool
  /-- `isr` (R35). -/
  isr : Byte
  /-- `isr_cnt` (R36). -/
  isrCnt : Nat
  /-- `osr` (R37). -/
  osr : Word
  /-- `osr_cnt` (R38). -/
  osrCnt : Nat
  /-- `xbit` (R39). -/
  xbit : Bool
  /-- `RXQ`, oldest first (R41). -/
  rxq : List Byte
  /-- `TXQ`, oldest first (R42). -/
  txq : List Word
  /-- Sticky `rx_overrun` (R44). -/
  rxOverrun : Bool
  /-- Sticky `contention` (R44). -/
  contention : Bool
  /-- `phase` (R45). -/
  phase : Phase
  /-- The session's receive bound in ticks (R46). -/
  timeout : Nat
  /-- A session owns the transport (R46, R331). -/
  owned : Bool
  /-- The host's position and locals (R47). -/
  host : HostPos
  /-- The snapshot operand of the handshake or respond_to_poll in progress (R47, D26). While neither is
  in progress none is stored (R284), and the field is `Snapshot.clear` (log 19). -/
  snapshot : Snapshot
  /-- `now`, the global time in engine cycles (R21). -/
  now : Nat
  /-- Environment: the console's drive in this cycle and those after it (R84; log 1). -/
  console : List Drive
  /-- Environment: the console's drive once `console` is used up; no step writes it (R84; log 1). -/
  consoleRest : ConsoleRest
  /-- Environment: what `Tick()` reads now (R332; log 1). -/
  tick : Nat
  /-- Environment: the calls still to be made (log 1). -/
  calls : List Call
  /-- Environment: who takes the next turns (R22; log 2). -/
  sched : List Agent
  /-- What the last returning operation gave its caller (log 17). -/
  result : Option Result
  deriving DecidableEq, Repr

/-- Why the model stops a run as broken. -/
inductive Fault where
  /-- The engine would take a bit from an exhausted window (`osr_cnt = 0` in `WR_SHIFT` or
  `WR_SHIFT2`). Raised by those two micro-states only; no run reaches it (R162 (4)). Safe: it stops
  where the spec gives no effect (log 13). -/
  | windowUnderflow
  deriving DecidableEq, Repr

/-- Why the model gives an invocation no meaning (R325). -/
inductive Refusal where
  /-- An instruction without a meaning yet. Raised by `exec`'s refused arms only. Safe. -/
  | notModelled (mnemonic : String)
  /-- `Refused(EmptyPayload)`: `send_bytes([])` (R226, U3). Safe: the spec refuses it. -/
  | emptyPayload
  /-- `Refused(WrongPhase)`: a session operation outside its phase, or a dispatch in a phase that
  decodes no command (R272, R282, U5). Safe: the spec refuses it. -/
  | wrongPhase
  /-- `Refused(NotInitialised)`: any operation but `init` before `init` (R363). Safe. -/
  | notInitialised
  /-- `Refused(BadConfig)`: `init` with `K < 9` or `QDEPTH < 1` (R361, U7). Safe. -/
  | badConfig
  /-- `Refused(NotOwner)`: a call of a second thread, or a transport operation or a handshake on a
  transport a session owns (R331, U6). Safe. -/
  | notOwner
  /-- The decoder rejected an object the machine fetched; no fetch of the machine is rejected, so
  this is never raised. Safe. -/
  | undecodable (e : DecodeError)
  deriving DecidableEq, Repr

/-- The machine right after reset: the state `init` leaves (the table of R54; log 3). `osr`, `xbit`,
`timeout`, `snapshot`, `now` and the environment's fields are values the spec leaves open (log 4, log 5). -/
def State.reset : State :=
  { cfg := Config.standard
    cursor := .rdEntry
    ctr := 0
    dir := .input
    pinOut := true
    isr := 0
    isrCnt := 0
    osr := 0
    osrCnt := 0
    xbit := false
    rxq := []
    txq := []
    rxOverrun := false
    contention := false
    phase := .noSession
    timeout := 0
    owned := false
    host := .outside
    snapshot := Snapshot.clear
    now := 0
    console := []
    consoleRest := .hold .release
    tick := 0
    calls := []
    sched := []
    result := none }

end Sys2Proof.Machine
end

