-- ==== Sys2Proof/Machine/Params.lean ====
section
/-! DEFINITION. The parameters the spec fixes (00_scope.md R10, R13, R14, R16) and the lengths
derived from them and `K` (R11). -/

namespace Sys2Proof.Machine

/-- `T1 = 1` slice (R10). -/
def t1 : Nat := 1

/-- `T2 = 2` slices (R10). -/
def t2 : Nat := 2

/-- `T3 = 1` slice (R10). -/
def t3 : Nat := 1

/-- `IN_THRESHOLD = 8` (R13). -/
def inThreshold : Nat := 8

/-- `OUT_WINDOW = 9` (R13). -/
def outWindow : Nat := 9

/-- `STOP_MARK = 1` (R13). -/
def stopMark : Bool := true

/-- `D_RESP = 4` microseconds (R14). -/
def dResp : Nat := 4

/-- `D_UNKNOWN = 130` microseconds (R14). -/
def dUnknown : Nat := 130

/-- `D_POLL_PRE = 40` microseconds (R14). -/
def dPollPre : Nat := 40

/-- `D_POLL_SETTLE = 4` microseconds (R14). -/
def dPollSettle : Nat := 4

/-- `POLL_DISCARD = 2` bytes (R16). -/
def pollDiscard : Nat := 2

/-- `C1 = T1*K` (R11). -/
def lenC1 (c : Config) : Nat := t1 * c.k

/-- `C2 = T2*K` (R11). -/
def lenC2 (c : Config) : Nat := t2 * c.k

/-- `C3 = T3*K` (R11). -/
def lenC3 (c : Config) : Nat := t3 * c.k

/-- `CELL = C1 + C2 + C3` (R11). -/
def lenCell (c : Config) : Nat := lenC1 c + lenC2 c + lenC3 c

/-- The legal configurations: `K >= 9` (R11) and `QDEPTH >= 1` (R12). Nothing is asked of
`TICKS_PER_CYCLE`, for which the spec names no refusal (R325, R361; log 24). -/
def configOk (c : Config) : Bool := decide (9 ≤ c.k) && decide (1 ≤ c.qdepth)

end Sys2Proof.Machine
end

