-- ==== Sys2Proof/Machine/Operands.lean ====
section
/-! DEFINITION. The values the core computes with: a bit as a number, the assembly of an engine
input word (30_encoding.md R129), the constant replies (R131 to R133), the poll report (R135 to
R138), the slices of a cell (R126, R127), and the place each phase decodes commands from (R125). -/

namespace Sys2Proof.Machine

/-- "each boolean read as 0 or 1" (R135). -/
def bit (v : Bool) : Byte := if v then 1#8 else 0#8

/-- `w = (zext_32(b) << 24) | (L << 23)` (R129). -/
def txWord (b : Byte) (last : Bool) : Word :=
  (b.setWidth 32 <<< 24) ||| ((if last then 1#32 else 0#32) <<< 23)

/-- The words `send_bytes` makes of a payload: exactly the last one is flagged (R129). -/
def txWords : List Byte → List Word
  | [] => []
  | [b] => [txWord b true]
  | b :: rest => txWord b false :: txWords rest

/-- `ID_REPLY` (R131). -/
def idReply : List Byte := [0x09#8, 0x00#8, 0x03#8]

/-- `CAL_REPLY_HS` (R132). -/
def calReplyHs : List Byte :=
  [0x00#8, 0x80#8, 0x80#8, 0x80#8, 0x80#8, 0x80#8, 0x00#8, 0x00#8, 0x00#8, 0x00#8]

/-- `CAL_REPLY_SS` (R133). -/
def calReplySs : List Byte :=
  [0x00#8, 0x01#8, 0x80#8, 0x80#8, 0x80#8, 0x80#8, 0x00#8, 0x00#8, 0x00#8, 0x00#8]

/-- Report byte 0, "buttons1" (R135). -/
def buttons1 (p : Snapshot) : Byte :=
  (bit p.start <<< 4) ||| (bit p.y <<< 3) ||| (bit p.x <<< 2) ||| (bit p.b <<< 1) ||| bit p.a

/-- Report byte 1, "buttons2" (R136). -/
def buttons2 (p : Snapshot) : Byte :=
  0x80#8 ||| (bit p.lDigital <<< 6) ||| (bit p.rDigital <<< 5) ||| (bit p.z <<< 4) |||
    (bit p.dpadUp <<< 3) ||| (bit p.dpadDown <<< 2) ||| (bit p.dpadRight <<< 1) ||| bit p.dpadLeft

/-- `Report(snapshot)` (R135 to R138). -/
def report (p : Snapshot) : List Byte :=
  [buttons1 p, buttons2 p, p.stickX, p.stickY, p.cstickX, p.cstickY, p.lAnalog, p.rAnalog]

/-- The four slices of the cell of a data bit (R126). -/
def dataCellSlices (v : Bool) : BitVec 4 := if v then 0b1011#4 else 0b1000#4

/-- The four slices of the stop cell (R127). -/
def stopCellSlices : BitVec 4 := 0b1011#4

/-- `phase` as the mode of the command decoder: only two phases decode commands (R125). -/
def commandSpace : Phase → Option Space
  | .handshaking => some .handshaking
  | .idle => some .idle
  | .noSession | .respondingResetOrProbe | .respondingRecalOrOrigin | .respondingPoll
  | .errorRecovery | .pollPending | .failed => none

end Sys2Proof.Machine
end

