-- ==== Sys2Proof/Machine/Flags.lean ====
section
/-! DEFINITION. The conditions that rules test, "all functions of other state, recomputed whenever
read" (10_state.md R43), the level of the wire (20_memory.md R84) and the two capabilities the core
reads (60_exceptions.md R332, R335). -/

namespace Sys2Proof.Machine

/-- The core has been initialised: `cursor` has left `UNSTARTED` (R54, R363). -/
def started (s : State) : Bool := decide (s.cursor ≠ .unstarted)

/-- `rx_empty` (R43). -/
def rxEmpty (s : State) : Bool := s.rxq.isEmpty

/-- `rx_full` (R43); a queue can hold no more at `QDEPTH` entries. -/
def rxFull (s : State) : Bool := decide (s.cfg.qdepth ≤ s.rxq.length)

/-- `tx_empty` (R43). -/
def txEmpty (s : State) : Bool := s.txq.isEmpty

/-- `tx_full` (R43). -/
def txFull (s : State) : Bool := decide (s.cfg.qdepth ≤ s.txq.length)

/-- `window_exhausted` (R43). -/
def windowExhausted (s : State) : Bool := decide (s.osrCnt = 0)

/-- `Console(now)` after the script: one drive for ever, or any drive at all (R84; log 1). -/
def restDrive (r : ConsoleRest) (now : Nat) : Drive :=
  match r with
  | .hold d => d
  | .free stream => if Config.consoleDrivesLow stream now then .driveLow else .release

/-- `Console(now)` (R84): the head of the console's script, and after it `consoleRest` (log 1). -/
def consoleNow (s : State) : Drive :=
  match s.console with
  | d :: _ => d
  | [] => restDrive s.consoleRest s.now

/-- The core drives the wire: `dir = Output`, once initialised (R84; before `init` the pin is "as
with `dir = Input`", R360). -/
def driving (s : State) : Bool := started s && decide (s.dir = .output)

/-- `Line()`, the level every reader sees in this cycle (R84, R85, R335); `true` is 1. -/
def line (s : State) : Bool :=
  if driving s then s.pinOut else decide (consoleNow s = .release)

/-- The condition that sets `contention` in this cycle (R85). -/
def clash (s : State) : Bool := driving s && decide (consoleNow s = .driveLow)

/-- `Tick()` (R332). -/
def readTick (s : State) : Nat := s.tick

/-- `Tick() - t0 >= timeout` (R224, R225). -/
def expired (timeout t0 : Nat) (s : State) : Bool := decide (timeout ≤ readTick s - t0)

/-- A call of a second thread stands next (R52, R331; log 12). -/
def secondThreadCalls (s : State) : Bool :=
  match s.calls with
  | c :: _ => decide (c.thread = .second)
  | [] => false

end Sys2Proof.Machine
end

