-- ==== Sys2Proof/Machine/Ops.lean ====
section
/-! DEFINITION. The named operations over the queues and registers: queue access (00_scope.md R19),
the two restarts (41_frame_transport.md R222, R223), the engine's shared actions (40_signal_engine.md),
delays, sends and receives as the host begins them, ErrorRecovery's entry and return, which stand for
taking and returning from an exception (00_scope.md R9; 60_exceptions.md R328, R329), and the close
of a turn (00_scope.md R22). -/

namespace Sys2Proof.Machine

/-- The outcome of one step of this machine. -/
abbrev StepOutcome : Type := Host.Outcome State Fault Refusal

/-- Apply `f` to the next state, if there is one. -/
def onNext (f : State → State) : StepOutcome → StepOutcome
  | .next s => .next (f s)
  | .fault r => .fault r
  | .refused r => .refused r

/-! ## The queues -/

/-- `MemWrite(RXQ, 1, b)` (R19). -/
def pushRxq (b : Byte) (s : State) : State := { s with rxq := s.rxq ++ [b] }

/-- Remove the oldest entry of RXQ, the effect of `MemRead(RXQ, 1)` (R19). -/
def dropRxq (s : State) : State := { s with rxq := s.rxq.tail }

/-- `MemWrite(TXQ, 4, w)` (R19). -/
def pushTxq (w : Word) (s : State) : State := { s with txq := s.txq ++ [w] }

/-- Remove the oldest entry of TXQ, the effect of `MemRead(TXQ, 4)` (R19). -/
def dropTxq (s : State) : State := { s with txq := s.txq.tail }

/-! ## Restart and initialisation -/

/-- The part shared by the two restarts: both queues, the partial byte, the window and the delay
are cleared and the cursor is placed, in one indivisible step (R222, R223). -/
def restartAt (entry : Cursor) (s : State) : State :=
  { s with rxq := [], txq := [], isr := 0, isrCnt := 0, osrCnt := 0, ctr := 0, cursor := entry }

/-- `restart_for_read()` (R222). -/
def restartForRead (s : State) : State := restartAt .rdEntry s

/-- `restart_for_write()` (R223). -/
def restartForWrite (s : State) : State := restartAt .wrEntry s

/-- `init()` on a legal configuration: the pin as input with its latch high, then
`restart_for_read` (R361). The transport it creates is owned by no session (R361, R365; log 14). -/
def initTransport (s : State) : State :=
  restartForRead { s with dir := .input, pinOut := true, phase := .noSession, owned := false }

/-! ## The engine's actions -/

/-- `cursor <- c`. -/
def goTo (c : Cursor) (s : State) : State := { s with cursor := c }

/-- `ctr <- n ; cursor <- c` (R163). -/
def delayThen (n : Nat) (c : Cursor) (s : State) : State := { s with ctr := n, cursor := c }

/-- `dir <- d ; cursor <- c` (R164, R171). -/
def setDir (d : Direction) (c : Cursor) (s : State) : State := { s with dir := d, cursor := c }

/-- `pin_out <- v` (R172, R183, R184, R188, R189). -/
def drivePin (v : Bool) (s : State) : State := { s with pinOut := v }

/-- `isr <- ((isr << 1) | L) mod 2^8 ; isr_cnt <- isr_cnt + 1` (R167). -/
def shiftIn (level : Bool) (s : State) : State :=
  { s with isr := (s.isr <<< 1) ||| bit level, isrCnt := s.isrCnt + 1 }

/-- Delivery of a completed byte into a receive queue with room (R168, R169). -/
def deliver (s : State) : State :=
  { pushRxq s.isr s with isr := 0, isrCnt := 0, cursor := .rdWaitHigh }

/-- `osr <- MemRead(TXQ, 4) ; osr_cnt <- 9 ; cursor <- c`, with `w` the word read (R173, R178). -/
def refill (w : Word) (c : Cursor) (s : State) : State :=
  { dropTxq s with osr := w, osrCnt := outWindow, cursor := c }

/-- `xbit <- osr[31] ; osr <- (osr << 1) mod 2^32 ; osr_cnt <- osr_cnt - 1 ; cursor <- c`
(R174, R179). -/
def shiftOut (c : Cursor) (s : State) : State :=
  { s with xbit := s.osr.getLsbD 31, osr := s.osr <<< 1, osrCnt := s.osrCnt - 1, cursor := c }

/-- A shift from a window that still holds a bit; with none left there is nothing to take
(R162 (4); log 13). -/
def takeBit (c : Cursor) (s : State) : StepOutcome :=
  if s.osrCnt = 0 then .fault .windowUnderflow else .next (shiftOut c s)

/-- The low pulse that opens a data cell, for a cell of value `v` (R126, R183). -/
def openDataCell (v : Bool) (s : State) : State :=
  delayThen (lenC1 s.cfg - 1) .wrVal (drivePin false { s with xbit := v })

/-- The low pulse of the stop cell (R127, R188). -/
def openStopCell (s : State) : State :=
  delayThen (lenC1 s.cfg - 1) .wrStopHigh (drivePin false s)

/-- Where the window goes on after a refill: the two pulls differ in their successor (R173, R178). -/
def afterPull (c : Cursor) : Cursor := if c = .wrPull2 then .wrShift2 else .wrShift

/-- The engine takes up the engine input word `w` (R173, R178). -/
def takeWord (w : Word) (s : State) : State := refill w (afterPull s.cursor) s

/-! ## The host's position -/

/-- The host goes on at `p`. -/
def hostAt (p : HostPos) (s : State) : State := { s with host := p }

/-- The operation returns `r` to its caller; its locals are lost, the snapshot it was given among them
(R47, R284; log 19). -/
def returnWith (r : Result) (s : State) : State :=
  { s with host := .outside, snapshot := Snapshot.clear, result := some r }

/-- `phase <- p`. -/
def setPhase (p : Phase) (s : State) : State := { s with phase := p }

/-- `delay_us(n)` is called: it returns no earlier than `n*K` cycles from now (R21, R333). -/
def delayUs (n : Nat) (k : AfterDelay) (s : State) : State :=
  hostAt (.delay (s.now + n * s.cfg.k) k) s

/-- A `receive_byte` of the session begins, with the session's `timeout` (R46). -/
def beginReceive (k : RecvFor) (s : State) : State := hostAt (.readTick s.timeout k) s

/-- `send_bytes(payload)` begins with its line-idle wait (R226). -/
def beginSend (payload : List Byte) (k : SendFor) (s : State) : State :=
  hostAt (.waitLine payload k) s

/-- `Reply(payload)`: `delay_us(D_RESP) ; send_bytes(payload)` (R281). -/
def beginReply (payload : List Byte) (k : SendFor) (s : State) : State :=
  delayUs dResp (.reply payload k) s

/-- The handshake has succeeded: `phase <- Idle ; return Session(ft, timeout)`, which owns the
transport from here on (R264, R331). -/
def returnSession (s : State) : State :=
  returnWith .session { s with phase := .idle, owned := true }

/-- The loop of `wait_for_poll` takes its next iteration in phase Idle (R272). -/
def listenAgain (s : State) : State := beginReceive .waitForPoll (setPhase .idle s)

/-! ## ErrorRecovery -/

/-- Entry: "It changes `phase` to `ErrorRecovery` and nothing else" and control goes to the fixed
procedure, which begins with its delay (R328, R280). -/
def enterErrorRecovery (k : RecoverFor) (s : State) : State :=
  delayUs dUnknown (.recover k) (setPhase .errorRecovery s)

/-- Return: `restart_for_read() ; phase <- Idle`, then the handshake returns its session or the
loop goes on (R280, R329). -/
def leaveErrorRecovery (k : RecoverFor) (s : State) : State :=
  match k with
  | .handshake => returnSession (restartForRead s)
  | .waitForPoll => listenAgain (restartForRead s)

/-! ## The close of a turn -/

/-- A host step takes no engine time (R22): only its entry of the schedule is spent. -/
def closeHostTurn (s : State) : State := { s with sched := s.sched.tail }

/-- The end of the engine cycle that began in `before` (R22): `contention` is set if the console
drove against the core (R85), time and ticks advance (R332), and the console's next drive stands. -/
def closeCycle (before : State) (s : State) : State :=
  { s with
    contention := s.contention || clash before
    now := s.now + 1
    tick := s.tick + s.cfg.ticksPerCycle
    console := s.console.tail
    sched := s.sched.tail }

end Sys2Proof.Machine
end

