-- ==== Sys2Proof/Machine/EngineWord.lean ====
section
/-! DEFINITION. The two engine input words (30_encoding.md R128): a pull takes the whole 32-bit word
from TXQ into the output buffer and opens its 9-bit window (40_signal_engine.md R173, R178). What
tells the two apart, the ninth bit, is met when the window is used up (R176, R177); the shifts and
that test are the micro-states after the pull (log 8). -/

namespace Sys2Proof.Machine

/-- TXW.MORE (R128): a byte that is not its frame's last. -/
def execTxwMore (data : Byte) (ignored : BitVec 23) (s : State) : StepOutcome :=
  .next (takeWord (packTxw data 0#1 ignored) s)

/-- TXW.LAST (R128): the final byte of a frame. -/
def execTxwLast (data : Byte) (ignored : BitVec 23) (s : State) : StepOutcome :=
  .next (takeWord (packTxw data 1#1 ignored) s)

end Sys2Proof.Machine
end

