-- ==== Sys2Proof/Machine/Handshake.lean ====
section
/-! DEFINITION. The six command bytes in phase Handshaking (42_session.md R264 to R270). A meaning is
the dispatch of the byte: the phase changes and the response procedure begins; the host's position
holds the rest of it (its delay, its payload, where it returns), which the host's later steps carry
out (log 7). -/

namespace Sys2Proof.Machine

/-- PROBE.HS (R265): the identity reply after `D_RESP`. -/
def execProbeHs (s : State) : StepOutcome :=
  .next (beginReply idReply .handshake (setPhase .respondingResetOrProbe s))

/-- RESET.HS (R266), "Identical to rule R265 in every respect". -/
def execResetHs (s : State) : StepOutcome :=
  .next (beginReply idReply .handshake (setPhase .respondingResetOrProbe s))

/-- ORIGIN.HS (R267): the handshake's calibration reply after `D_RESP`. -/
def execOriginHs (s : State) : StepOutcome :=
  .next (beginReply calReplyHs .handshake (setPhase .respondingRecalOrOrigin s))

/-- RECAL.HS (R268), "Identical to rule R267". -/
def execRecalHs (s : State) : StepOutcome :=
  .next (beginReply calReplyHs .handshake (setPhase .respondingRecalOrOrigin s))

/-- POLL.HS (R269): the report at once; "no delay precedes the send and no byte is discarded first". -/
def execPollHs (s : State) : StepOutcome :=
  .next (beginSend (report s.snapshot) .handshake (setPhase .respondingPoll s))

/-- UNK.HS (R270): ErrorRecovery, then a session all the same; the byte is not kept (R322). -/
def execUnkHs (_op : Byte) (s : State) : StepOutcome :=
  .next (enterErrorRecovery .handshake s)

end Sys2Proof.Machine
end

