-- ==== Sys2Proof/Machine/SteadyState.lean ====
section
/-! DEFINITION. The six command bytes in phase Idle, inside `wait_for_poll` (42_session.md R272 to
R278). As in Machine/Handshake.lean a meaning is the dispatch of the byte (log 7). -/

namespace Sys2Proof.Machine

/-- PROBE.SS (R273): the identity reply after `D_RESP`, and the loop goes on. -/
def execProbeSs (s : State) : StepOutcome :=
  .next (beginReply idReply .waitForPoll (setPhase .respondingResetOrProbe s))

/-- RESET.SS (R274), "Identical to rule R273". -/
def execResetSs (s : State) : StepOutcome :=
  .next (beginReply idReply .waitForPoll (setPhase .respondingResetOrProbe s))

/-- ORIGIN.SS (R275): the steady state's calibration reply after `D_RESP`. -/
def execOriginSs (s : State) : StepOutcome :=
  .next (beginReply calReplySs .waitForPoll (setPhase .respondingRecalOrOrigin s))

/-- RECAL.SS (R276), "Identical to rule R275". -/
def execRecalSs (s : State) : StepOutcome :=
  .next (beginReply calReplySs .waitForPoll (setPhase .respondingRecalOrOrigin s))

/-- POLL.SS (R277): `phase <- PollPending ; return` from `wait_for_poll`. -/
def execPollSs (s : State) : StepOutcome :=
  .next (returnWith .done (setPhase .pollPending s))

/-- UNK.SS (R278): ErrorRecovery, then the loop goes on; the byte is not kept (R322). -/
def execUnkSs (_op : Byte) (s : State) : StepOutcome :=
  .next (enterErrorRecovery .waitForPoll s)

end Sys2Proof.Machine
end

