-- ==== Sys2Proof/Machine/WireCell.lean ====
section
/-! DEFINITION. The three cells of the wire (30_encoding.md R126, R127). The low pulse opens a cell
(00_scope.md R10): the micro-states `WR_LOW` and `WR_STOP_LOW` take the cell up by driving the wire
low and loading the length of the pulse; the value phase and the release are the micro-states after
it (40_signal_engine.md R183 to R189; log 8). -/

namespace Sys2Proof.Machine

/-- CELL.0 (R126): low, then at level 0. -/
def execCell0 (s : State) : StepOutcome := .next (openDataCell false s)

/-- CELL.1 (R126): low, then at level 1. -/
def execCell1 (s : State) : StepOutcome := .next (openDataCell true s)

/-- CELL.STOP (R127): low, then high, then the wire is released. -/
def execCellStop (s : State) : StepOutcome := .next (openStopCell s)

end Sys2Proof.Machine
end

