-- ==== Sys2Proof/Machine/Dispatch.lean ====
section
/-! DEFINITION. One arm per instruction. -/

namespace Sys2Proof.Machine

def exec (i : Instr) (s : State) : Host.Outcome State Fault Refusal :=
  match i with
  | .probeHs => Sys2Proof.Machine.execProbeHs s
  | .resetHs => Sys2Proof.Machine.execResetHs s
  | .originHs => Sys2Proof.Machine.execOriginHs s
  | .recalHs => Sys2Proof.Machine.execRecalHs s
  | .pollHs => Sys2Proof.Machine.execPollHs s
  | .unkHs op => Sys2Proof.Machine.execUnkHs op s
  | .probeSs => Sys2Proof.Machine.execProbeSs s
  | .resetSs => Sys2Proof.Machine.execResetSs s
  | .originSs => Sys2Proof.Machine.execOriginSs s
  | .recalSs => Sys2Proof.Machine.execRecalSs s
  | .pollSs => Sys2Proof.Machine.execPollSs s
  | .unkSs op => Sys2Proof.Machine.execUnkSs op s
  | .txwMore data ignored => Sys2Proof.Machine.execTxwMore data ignored s
  | .txwLast data ignored => Sys2Proof.Machine.execTxwLast data ignored s
  | .cell0 => Sys2Proof.Machine.execCell0 s
  | .cell1 => Sys2Proof.Machine.execCell1 s
  | .cellStop => Sys2Proof.Machine.execCellStop s

end Sys2Proof.Machine
end

