-- ==== Sys2Proof/Machine/Engine.lean ====
section
/-! DEFINITION. The Signal Engine (40_signal_engine.md): one action per micro-state (R161, R164 to
R189) and one engine cycle (R163). Four micro-states take up an instruction: `WR_PULL` and `WR_PULL2`
when they find a word, `WR_LOW` and `WR_STOP_LOW` always. What they do then is the instruction's
meaning (Machine/EngineWord.lean, Machine/WireCell.lean), which Machine/Fetch.lean selects; here
stands only what is left of the two pulls, their stall (R175). -/

namespace Sys2Proof.Machine

/-- `RD_ENTRY` (R164). -/
def rdEntry (s : State) : State := setDir .input .rdWaitHigh s

/-- `RD_WAIT_HIGH` (R165). -/
def rdWaitHigh (level : Bool) (s : State) : State := if level then goTo .rdWaitLow s else s

/-- `RD_WAIT_LOW` (R166). -/
def rdWaitLow (level : Bool) (s : State) : State :=
  if level then s else delayThen (lenC1 s.cfg + lenC2 s.cfg / 2 - 1) .rdSample s

/-- The 8th bit is in: deliver it, or hold it and mark the overrun (R168). -/
def byteComplete (s : State) : State :=
  if rxFull s then { s with rxOverrun := true, cursor := .rdPushStall } else deliver s

/-- `RD_SAMPLE` (R167, R168). -/
def rdSample (level : Bool) (s : State) : State :=
  if (shiftIn level s).isrCnt = inThreshold then byteComplete (shiftIn level s)
  else goTo .rdWaitHigh (shiftIn level s)

/-- `RD_PUSH_STALL` (R169). -/
def rdPushStall (s : State) : State := if rxFull s then s else deliver s

/-- `WR_ENTRY` (R171). -/
def wrEntry (s : State) : State := setDir .output .wrHigh s

/-- `WR_HIGH` (R172). -/
def wrHigh (s : State) : State := goTo .wrPull (drivePin true s)

/-- `WR_PULL` where no word is taken: the window goes on, or the pull stalls on an empty transmit
queue (R173, R175). -/
def wrPullNoWord (s : State) : State := if windowExhausted s then s else goTo .wrShift s

/-- `WR_SHIFT` (R174). -/
def wrShift (s : State) : StepOutcome := takeBit .wrTest9 s

/-- `WR_TEST9` (R176). -/
def wrTest9 (s : State) : State := if windowExhausted s then goTo .wrTestStop s else goTo .wrPadBit s

/-- `WR_TESTSTOP` (R177). -/
def wrTestStop (s : State) : State :=
  if s.xbit = stopMark then goTo .wrPadStop s else goTo .wrPull2 s

/-- `WR_SHIFT2` (R179). -/
def wrShift2 (s : State) : StepOutcome := takeBit .wrJmpFast s

/-- `WR_JMPFAST` (R180). -/
def wrJmpFast (s : State) : State := goTo .wrPadFast s

/-- `WR_PAD_BIT` (R181). -/
def wrPadBit (s : State) : State := delayThen 3 .wrPadFast s

/-- `WR_PAD_FAST` (R182). -/
def wrPadFast (s : State) : State := delayThen (lenC3 s.cfg - 9) .wrLow s

/-- `WR_VAL` (R184). -/
def wrVal (s : State) : State := delayThen (lenC2 s.cfg - 2) .wrLoop (drivePin s.xbit s)

/-- `WR_LOOP` (R185). -/
def wrLoop (s : State) : State := goTo .wrHigh s

/-- `WR_PAD_STOP` (R187). -/
def wrPadStop (s : State) : State := delayThen (lenC3 s.cfg - 6) .wrStopLow s

/-- `WR_STOP_HIGH` (R189). -/
def wrStopHigh (s : State) : State := delayThen (lenC2 s.cfg - 2) .wrToRead (drivePin true s)

/-- `WR_TO_READ` (R186). -/
def wrToRead (s : State) : State := goTo .rdEntry s

/-- The micro-state named by `cursor` acts, with the level of the wire as it stands in this cycle
(R161, R163). `UNSTARTED` names no micro-state: nothing acts (R54). A pull stalls here (R175); `WR_LOW`
and `WR_STOP_LOW` have no action of their own besides the cell they take up. -/
def microState (s : State) : StepOutcome :=
  match s.cursor with
  | .unstarted => .next s
  | .rdEntry => .next (rdEntry s)
  | .rdWaitHigh => .next (rdWaitHigh (line s) s)
  | .rdWaitLow => .next (rdWaitLow (line s) s)
  | .rdSample => .next (rdSample (line s) s)
  | .rdPushStall => .next (rdPushStall s)
  | .wrEntry => .next (wrEntry s)
  | .wrHigh => .next (wrHigh s)
  | .wrPull => .next (wrPullNoWord s)
  | .wrShift => wrShift s
  | .wrTest9 => .next (wrTest9 s)
  | .wrTestStop => .next (wrTestStop s)
  | .wrPull2 => .next s
  | .wrShift2 => wrShift2 s
  | .wrJmpFast => .next (wrJmpFast s)
  | .wrPadBit => .next (wrPadBit s)
  | .wrPadFast => .next (wrPadFast s)
  | .wrLow => .next s
  | .wrVal => .next (wrVal s)
  | .wrLoop => .next (wrLoop s)
  | .wrPadStop => .next (wrPadStop s)
  | .wrStopLow => .next s
  | .wrStopHigh => .next (wrStopHigh s)
  | .wrToRead => .next (wrToRead s)

/-- One engine cycle's action: before `init` the engine has no step, whatever `ctr` holds (R54, R360);
after it a delay cycle counts down, otherwise the micro-state acts (R163). -/
def engineAct (s : State) : StepOutcome :=
  if started s then if s.ctr = 0 then microState s else .next { s with ctr := s.ctr - 1 }
  else .next s

end Sys2Proof.Machine
end

