-- ==== Sys2Proof/Machine/Host.lean ====
section
/-! DEFINITION. The host thread: the operations of the Frame Transport and the Session as sequences
of atomic host steps (41_frame_transport.md R221 to R229, 42_session.md R264 to R283,
70_reset_and_hazards.md R361 to R365). The dispatch of a received command byte is the meaning of an
instruction (Machine/Handshake.lean, Machine/SteadyState.lean). -/

namespace Sys2Proof.Machine

/-! ## What an operation does when its receive or its send ends -/

/-- A discarded receive has ended, with a byte or without (R282, R283): the next one begins, or the
settle delay. -/
def afterDiscard (left : Nat) (s : State) : State :=
  if left ≤ 1 then delayUs dPollSettle .report s else beginReceive (.discard (left - 1)) s

/-- `receive_byte` returns `Byte(b)` (R224). -/
def receivedByte (b : Byte) (k : RecvFor) (s : State) : State :=
  match k with
  | .direct => returnWith (.byte b) s
  | .handshake => hostAt (.dispatch b) s
  | .waitForPoll => hostAt (.dispatch b) s
  | .discard left => afterDiscard left s

/-- `receive_byte` raises `NoData` (R321): `HandshakeFailure` in the handshake (R271), ErrorRecovery
in the poll loop (R279), ignored by the two discards (R283). -/
def receivedNothing (k : RecvFor) (s : State) : State :=
  match k with
  | .direct => returnWith .noData s
  | .handshake => returnWith .handshakeFailure (setPhase .failed s)
  | .waitForPoll => enterErrorRecovery .waitForPoll s
  | .discard left => afterDiscard left s

/-- `send_bytes` returns (R226, R229). -/
def sendReturns (k : SendFor) (s : State) : State :=
  match k with
  | .direct => returnWith .done s
  | .handshake => returnSession s
  | .waitForPoll => listenAgain s
  | .respond => returnWith .done (setPhase .idle s)

/-- `delay_us` returns. -/
def delayReturns (k : AfterDelay) (s : State) : State :=
  match k with
  | .reply payload k => beginSend payload k s
  | .recover k => hostAt (.recoverRestart k) s
  | .discards => beginReceive (.discard pollDiscard) s
  | .report => beginSend (report s.snapshot) .respond s

/-! ## The host steps -/

/-- The queue test of `receive_byte`: "queue first" (R224). -/
def stepTestQueue (timeout t0 : Nat) (k : RecvFor) (s : State) : State :=
  match s.rxq with
  | b :: _ => receivedByte b k (dropRxq s)
  | [] => hostAt (.testClock timeout t0 k) s

/-- The clock test of `receive_byte`: "then the budget" (R224, R225). -/
def stepTestClock (timeout t0 : Nat) (k : RecvFor) (s : State) : State :=
  if expired timeout t0 s then receivedNothing k s else hostAt (.testQueue timeout t0 k) s

/-- One step of the line-idle wait: one high reading suffices (R227). -/
def stepWaitLine (payload : List Byte) (k : SendFor) (s : State) : State :=
  if line s then hostAt (.restartWrite payload k) s else s

/-- One step of the push loop: wait while TXQ is full, else append the word of byte `i` in the same
step; the operation returns in the step that appends the last word (R226, R228, R229). -/
def stepPush (payload : List Byte) (i : Nat) (k : SendFor) (s : State) : State :=
  match payload[i]? with
  | none => sendReturns k s
  | some b =>
    if txFull s then s
    else if i + 1 = payload.length then sendReturns k (pushTxq (txWord b true) s)
    else hostAt (.push payload (i + 1) k) (pushTxq (txWord b false) s)

/-- An operation of the Frame Transport called by the caller: only on a transport no session owns
(R331, R363). -/
def onFreeTransport (s : State) (t : State) : StepOutcome :=
  if s.owned then .refused .notOwner else .next t

/-- The caller invokes an operation on an initialised core, or `init`. `Refused` is tested first
(R327 (4)). -/
def invoke (op : HostOp) (s : State) : StepOutcome :=
  match op with
  | .init =>
    if configOk s.cfg then .next (returnWith .transport (initTransport s)) else .refused .badConfig
  | .restartForRead => onFreeTransport s (returnWith .done (restartForRead s))
  | .restartForWrite => onFreeTransport s (returnWith .done (restartForWrite s))
  | .receiveByte timeout => onFreeTransport s (hostAt (.readTick timeout .direct) s)
  | .sendBytes payload =>
    if s.owned then .refused .notOwner
    else if payload.isEmpty then .refused .emptyPayload
    else .next (beginSend payload .direct s)
  | .handshake timeout snapshot =>
    onFreeTransport s
      (beginReceive .handshake
        { s with phase := .handshaking, timeout := timeout, snapshot := snapshot })
  | .waitForPoll =>
    if s.phase = .idle then .next (beginReceive .waitForPoll s) else .refused .wrongPhase
  | .respondToPoll snapshot =>
    if s.phase = .pollPending then
      .next (delayUs dPollPre .discards { s with phase := .respondingPoll, snapshot := snapshot })
    else .refused .wrongPhase

/-- The caller's next call: before `init` only `init` has a meaning (R363). -/
def takeCall (op : HostOp) (s : State) : StepOutcome :=
  if started s || decide (op = .init) then invoke op s else .refused .notInitialised

/-- The host's next step from its position (R221). Outside every operation it takes the caller's
next call, if there is one. A dispatch is not a step of this function: Machine/Fetch.lean sends it to
`exec`. -/
def hostAdvance (s : State) : StepOutcome :=
  match s.host with
  | .outside =>
    match s.calls with
    | c :: rest => takeCall c.op { s with calls := rest }
    | [] => .next s
  | .readTick timeout k => .next (hostAt (.testQueue timeout (readTick s) k) s)
  | .testQueue timeout t0 k => .next (stepTestQueue timeout t0 k s)
  | .testClock timeout t0 k => .next (stepTestClock timeout t0 k s)
  | .dispatch _ => .next s
  | .delay deadline k => .next (if s.now < deadline then s else delayReturns k s)
  | .waitLine payload k => .next (stepWaitLine payload k s)
  | .restartWrite payload k => .next (hostAt (.push payload 0 k) (restartForWrite s))
  | .push payload i k => .next (stepPush payload i k s)
  | .recoverRestart k => .next (leaveErrorRecovery k s)

/-- Why a second thread's call is refused: `NotOwner` (R331, R325), before `init` too if the call is
`init` itself, which uses no transport; an operation on a transport before `init` is `NotInitialised`,
whoever calls it (R363; log 12). -/
def secondThreadRefusal (s : State) : Refusal :=
  if started s || decide (s.calls.head?.map Call.op = some .init) then .notOwner
  else .notInitialised

/-- A host step. A call of a second thread is refused wherever the host stands (R52, R382; log 12). -/
def hostAct (s : State) : StepOutcome :=
  if secondThreadCalls s then .refused (secondThreadRefusal s) else hostAdvance s

/-- The host can do more this cycle than wait: the question the empty schedule asks (log 2). -/
def hostReady (s : State) : Bool :=
  secondThreadCalls s ||
  match s.host with
  | .outside => !s.calls.isEmpty
  | .testQueue timeout t0 _ => !rxEmpty s || expired timeout t0 s
  | .delay deadline _ => decide (deadline ≤ s.now)
  | .waitLine _ _ => line s
  | .push payload i _ => !txFull s || decide (payload.length ≤ i)
  | .readTick _ _ | .testClock _ _ _ | .dispatch _ | .restartWrite _ _ | .recoverRestart _ => true

end Sys2Proof.Machine
end

