-- ==== Sys2Proof/Machine/Fetch.lean ====
section
/-! DEFINITION. Whose turn it is (00_scope.md R22) and what that agent takes up: an instruction to be
decoded, or a step of its own. The host takes up a received command byte in the phases that decode
commands (30_encoding.md R125); the engine takes up an engine input word in a pull and a cell where
it opens one (40_signal_engine.md R173, R178, R183, R188). -/

namespace Sys2Proof.Machine

/-- The agent that moves: the schedule's head; past its end the host while it can do more than wait,
else the engine (log 2). -/
def turn (s : State) : Agent :=
  match s.sched with
  | a :: _ => a
  | [] => if hostReady s then .host else .engine

/-- What an agent's turn consists of. -/
inductive Fetched where
  /-- Nothing to decode: the agent makes a step of its own. -/
  | own
  /-- An encoded object read from a place. -/
  | object (sp : Space) (x : Code)
  /-- A command byte in a phase that decodes none. -/
  | nowhere
  deriving DecidableEq, Repr

/-- The host takes up the byte it is about to dispatch. -/
def hostFetch (s : State) : Fetched :=
  match s.host with
  | .dispatch b =>
    match commandSpace s.phase with
    | some sp => .object sp (.cmd8 b)
    | none => .nowhere
  | .outside | .readTick _ _ | .testQueue _ _ _ | .testClock _ _ _ | .delay _ _ | .waitLine _ _
  | .restartWrite _ _ | .push _ _ _ | .recoverRestart _ => .own

/-- The oldest word of TXQ, if there is one; a pull stalls otherwise (R175). -/
def fetchWord (s : State) : Fetched :=
  match s.txq with
  | w :: _ => .object .transmit (.txw32 w)
  | [] => .own

/-- The engine takes up a word in a pull and a cell where it opens one. -/
def engineFetch (s : State) : Fetched :=
  if s.ctr = 0 then
    match s.cursor with
    | .wrPull => if windowExhausted s then fetchWord s else .own
    | .wrPull2 => fetchWord s
    | .wrLow => .object .dataCell (.cell (dataCellSlices s.xbit))
    | .wrStopLow => .object .stopCell (.cell stopCellSlices)
    | .unstarted | .rdEntry | .rdWaitHigh | .rdWaitLow | .rdSample | .rdPushStall | .wrEntry
    | .wrHigh | .wrShift | .wrTest9 | .wrTestStop | .wrShift2 | .wrJmpFast | .wrPadBit | .wrPadFast
    | .wrVal | .wrLoop | .wrPadStop | .wrStopHigh | .wrToRead => .own
  else .own

/-- What the agent whose turn it is takes up. -/
def fetch (s : State) : Fetched :=
  match turn s with
  | .host => hostFetch s
  | .engine => engineFetch s

/-- The step an agent makes when it takes up no instruction. -/
def ownAct (a : Agent) (s : State) : StepOutcome :=
  match a with
  | .host => hostAct s
  | .engine => engineAct s

/-- What every turn of an agent adds to its action (R22). -/
def closeTurn (a : Agent) (before after : State) : State :=
  match a with
  | .host => closeHostTurn after
  | .engine => closeCycle before after

/-- Place an encoded object where the next turn takes it up (log 10). -/
def placeCode (x : Code) (s : State) : State :=
  match x with
  | .cmd8 b =>
    { s with
      phase := if s.phase = .idle then .idle else .handshaking
      host := .dispatch b
      sched := .host :: s.sched }
  | .txw32 w =>
    { s with
      cursor := .wrPull, ctr := 0, osrCnt := 0, dir := .output, pinOut := true, txq := [w]
      sched := .engine :: s.sched }
  | .cell p =>
    { s with
      cursor := .wrLow, ctr := 0, xbit := p.getLsbD 0, dir := .output, pinOut := true
      sched := .engine :: s.sched }

end Sys2Proof.Machine
end

