-- ==== Sys2Proof/Machine/Step.lean ====
section
/-! DEFINITION. One step of the machine: one turn of one of the two agents (00_scope.md R22). -/

namespace Sys2Proof.Machine

/-- The agent whose turn it is runs the instruction it takes up, or makes a step of its own, and its
turn is closed. -/
def step (s : State) : Host.Outcome State Fault Refusal :=
  match fetch s with
  | .own => onNext (closeTurn (turn s) s) (ownAct (turn s) s)
  | .nowhere => .refused .wrongPhase
  | .object sp x =>
    match decode sp x with
    | .ok i => onNext (closeTurn (turn s) s) (exec i s)
    | .rejected e => .refused (.undecodable e)

/-- `s` with the encoded object whose bits are `w` stored where the next step takes it up (log 10). -/
def State.withFetchWord (s : State) (nbits w : Nat) : State :=
  match tableCode nbits w with
  | some x => placeCode x s
  | none => s

end Sys2Proof.Machine
end

