-- ==== Sys2Proof/Safety.lean ====
section
/-! DEFINITION. What counts as a safe run, in the terms claims use: the faulted runs (10_state.md
R44), the quiescent states (70_reset_and_hazards.md R386), the invariants of reachable states
(10_state.md R53; 40_signal_engine.md R162; 42_session.md R262), runs and traces of the machine, the
well-formed console frame (20_memory.md R92), the frame waveform (40_signal_engine.md R190), and the
states that differ only where nothing looks (30_encoding.md R128). -/

namespace Sys2Proof.Machine

/-! ## Faulted and quiescent states -/

/-- "A model treats a run in which either is set as faulted" (R44). -/
def faulted (s : State) : Bool := s.rxOverrun || s.contention

/-- The host spins in a receive. -/
def receiving (h : HostPos) : Bool :=
  match h with
  | .testQueue _ _ _ | .testClock _ _ _ => true
  | .outside | .readTick _ _ | .dispatch _ | .delay _ _ | .waitLine _ _ | .restartWrite _ _
  | .push _ _ _ | .recoverRestart _ => false

/-- The core is quiescent (R386). -/
def quiescent (s : State) : Bool :=
  (decide (s.host = .outside) || receiving s.host) && rxEmpty s && txEmpty s &&
    (decide (s.cursor = .rdWaitLow) || (decide (s.cursor = .rdWaitHigh) && !line s)) &&
    decide (s.dir = .input) && decide (s.ctr = 0)

/-! ## The invariant of the engine -/

/-- The engine is in read mode (R53, R161). -/
def readMode (c : Cursor) : Bool :=
  match c with
  | .rdEntry | .rdWaitHigh | .rdWaitLow | .rdSample | .rdPushStall => true
  | .unstarted | .wrEntry | .wrHigh | .wrPull | .wrShift | .wrTest9 | .wrTestStop | .wrPull2
  | .wrShift2 | .wrJmpFast | .wrPadBit | .wrPadFast | .wrLow | .wrVal | .wrLoop | .wrPadStop
  | .wrStopLow | .wrStopHigh | .wrToRead => false

/-- The engine is in write mode (R53, R161). -/
def writeMode (c : Cursor) : Bool := !readMode c && decide (c ≠ .unstarted)

/-- The micro-states in which the window has been used up: from the test of the ninth bit to the
next refill or the end of the frame (R162, R177, R178, R186). -/
def windowSpent (c : Cursor) : Bool :=
  match c with
  | .wrTestStop | .wrPull2 | .wrPadStop | .wrStopLow | .wrStopHigh | .wrToRead => true
  | .unstarted | .rdEntry | .rdWaitHigh | .rdWaitLow | .rdSample | .rdPushStall | .wrEntry | .wrHigh
  | .wrPull | .wrShift | .wrTest9 | .wrShift2 | .wrJmpFast | .wrPadBit | .wrPadFast | .wrLow | .wrVal
  | .wrLoop => false

/-- The largest value `ctr` may hold (R32). -/
def maxDelay (c : Config) : Nat :=
  max (lenC1 c + lenC2 c / 2 - 1) (max (lenC2 c - 2) (lenC3 c - 6))

/-- What R53, R32 and R162 say of the engine's registers once it has been started. -/
abbrev EngineOk (s : State) : Prop :=
  configOk s.cfg = true ∧
  s.rxq.length ≤ s.cfg.qdepth ∧
  s.txq.length ≤ s.cfg.qdepth ∧
  s.ctr ≤ maxDelay s.cfg ∧
  s.isrCnt ≤ inThreshold ∧
  (s.isrCnt = inThreshold → s.cursor = .rdPushStall) ∧
  s.isr.toNat < 2 ^ s.isrCnt ∧
  s.osrCnt ≤ outWindow ∧
  (s.cursor = .wrShift ∨ s.cursor = .wrShift2 → 1 ≤ s.osrCnt) ∧
  (windowSpent s.cursor = true → s.osrCnt = 0) ∧
  (readMode s.cursor = true → s.osrCnt = 0) ∧
  (writeMode s.cursor = true → s.isrCnt = 0) ∧
  (readMode s.cursor = true → s.cursor ≠ .rdEntry → s.dir = .input) ∧
  (writeMode s.cursor = true → s.cursor ≠ .wrEntry → s.dir = .output)

/-- The invariant of the engine: before `init` the host is in no operation (R363), after it the
registers are as R53 says. -/
abbrev EngineInv (s : State) : Prop :=
  (s.cursor = .unstarted → s.host = .outside) ∧ (s.cursor ≠ .unstarted → EngineOk s)

/-! ## The invariant of the session -/

/-- No session exists and no handshake is under way (R45, R262). -/
def noSessionPhase (p : Phase) : Bool := decide (p = .noSession) || decide (p = .failed)

/-- The phase and the ownership a receive is made in (R264, R272, R282). -/
def recvAgrees (k : RecvFor) (p : Phase) (owned : Bool) : Bool :=
  match k with
  | .direct => !owned && noSessionPhase p
  | .handshake => !owned && decide (p = .handshaking)
  | .waitForPoll => owned && decide (p = .idle)
  | .discard _ => owned && decide (p = .respondingPoll)

/-- The phase and the ownership a send is made in (R265 to R269, R273 to R276, R282). -/
def sendAgrees (k : SendFor) (p : Phase) (owned : Bool) : Bool :=
  match k with
  | .direct => !owned && noSessionPhase p
  | .handshake =>
    !owned && (decide (p = .respondingResetOrProbe) || decide (p = .respondingRecalOrOrigin) ||
      decide (p = .respondingPoll))
  | .waitForPoll =>
    owned && (decide (p = .respondingResetOrProbe) || decide (p = .respondingRecalOrOrigin))
  | .respond => owned && decide (p = .respondingPoll)

/-- The phase and the ownership ErrorRecovery runs in (R328). -/
def recoverAgrees (k : RecoverFor) (p : Phase) (owned : Bool) : Bool :=
  match k with
  | .handshake => !owned && decide (p = .errorRecovery)
  | .waitForPoll => owned && decide (p = .errorRecovery)

/-- The host's position agrees with the phase and the ownership of the transport (R262, R331), and a
payload under way is not empty (R226). -/
def hostAgrees (h : HostPos) (p : Phase) (owned : Bool) : Bool :=
  match h with
  | .outside =>
    if owned then decide (p = .idle) || decide (p = .pollPending) else noSessionPhase p
  | .readTick _ k | .testQueue _ _ k | .testClock _ _ k => recvAgrees k p owned
  | .dispatch _ => if owned then decide (p = .idle) else decide (p = .handshaking)
  | .delay _ (.reply payload k) => sendAgrees k p owned && !payload.isEmpty
  | .delay _ (.recover k) => recoverAgrees k p owned
  | .delay _ .discards | .delay _ .report => owned && decide (p = .respondingPoll)
  | .waitLine payload k | .restartWrite payload k => sendAgrees k p owned && !payload.isEmpty
  | .push payload i k => sendAgrees k p owned && decide (i < payload.length)
  | .recoverRestart k => recoverAgrees k p owned

/-- A receive of an operation that was given a snapshot (R264, R282). -/
def recvHoldsSnapshot (k : RecvFor) : Bool :=
  match k with
  | .handshake | .discard _ => true
  | .direct | .waitForPoll => false

/-- A send of an operation that was given a snapshot (R264, R282). -/
def sendHoldsSnapshot (k : SendFor) : Bool :=
  match k with
  | .handshake | .respond => true
  | .direct | .waitForPoll => false

/-- The operation in progress is one that was given a snapshot, `handshake` or `respond_to_poll`; its
locals are held only until it returns (R47, R284). -/
def holdsSnapshot (h : HostPos) (owned : Bool) : Bool :=
  match h with
  | .outside => false
  | .readTick _ k | .testQueue _ _ k | .testClock _ _ k => recvHoldsSnapshot k
  | .dispatch _ => !owned
  | .delay _ (.reply _ k) => sendHoldsSnapshot k
  | .delay _ (.recover k) | .recoverRestart k => decide (k = .handshake)
  | .delay _ .discards | .delay _ .report => true
  | .waitLine _ k | .restartWrite _ k | .push _ _ k => sendHoldsSnapshot k

/-- The invariant of the session: the host's position agrees with the phase and the ownership, and no
snapshot is stored outside the operations that were given one (R284). -/
abbrev SessionInv (s : State) : Prop :=
  hostAgrees s.host s.phase s.owned = true ∧
    (holdsSnapshot s.host s.owned = false → s.snapshot = Snapshot.clear)

/-! ## Runs and traces -/

/-- `n` steps of the machine. -/
def runSteps : Nat → State → StepOutcome
  | 0, s => .next s
  | n + 1, s =>
    match step s with
    | .next t => runSteps n t
    | .fault r => .fault r
    | .refused r => .refused r

/-- The level of the wire in each of the next `n` turns. -/
def lineTrace : Nat → State → List Bool
  | 0, _ => []
  | n + 1, s =>
    line s ::
      match step s with
      | .next t => lineTrace n t
      | .fault _ => []
      | .refused _ => []

/-- The next `n` turns are the engine's: `n` engine cycles with no host step between them. -/
abbrev engineOnly (n : Nat) (s : State) : Prop := s.sched.take n = List.replicate n .engine

/-- The next `n` turns are the host's: `n` host steps in one engine cycle. -/
abbrev hostOnly (n : Nat) (s : State) : Prop := s.sched.take n = List.replicate n .host

/-! ## Frames on the wire -/

/-- The bits of a byte in wire order, most significant first (R86). -/
def wireBits (b : Byte) : List Bool :=
  [b.getLsbD 7, b.getLsbD 6, b.getLsbD 5, b.getLsbD 4, b.getLsbD 3, b.getLsbD 2, b.getLsbD 1,
    b.getLsbD 0]

/-- The nominal cell of a console bit, from its falling edge (R92). -/
def consoleCell (c : Config) (v : Bool) : List Drive :=
  List.replicate (lenC1 c) .driveLow ++
    List.replicate (lenC2 c) (if v then .release else .driveLow) ++
    List.replicate (lenC3 c) .release

/-- A well-formed console frame of nominal shape: its bytes' cells, then the stop pulse and the
released wire after it, as long as a cell (R92). -/
def consoleFrame (c : Config) (bytes : List Byte) : List Drive :=
  (bytes.flatMap wireBits).flatMap (consoleCell c) ++ consoleCell c true

/-- The levels of a cell as the core drives it: high, low, value (R126, R127). -/
def drivenCell (c : Config) (v : Bool) : List Bool :=
  List.replicate (lenC3 c) true ++ List.replicate (lenC1 c) false ++ List.replicate (lenC2 c) v

/-- The levels of a frame as the core drives it: the cells of its bytes, then the stop cell (R190). -/
def drivenFrame (c : Config) (bytes : List Byte) : List Bool :=
  (bytes.flatMap wireBits).flatMap (drivenCell c) ++ drivenCell c true

/-! ## States that differ only in bits nothing examines -/

/-- The 9-bit window of an engine input word, `w[31:23]` (R128). -/
def window (w : Word) : BitVec 9 := w.extractLsb' 23 9

/-- The bits of the current window not yet taken: the top `osr_cnt` bits of `osr` (R37, R38). -/
def untaken (s : State) : Nat := s.osr.toNat / 2 ^ (32 - s.osrCnt)

/-- Two states that agree in everything but the bits of `osr` outside the window still to be taken
and the ignored bits of the queued words (R37, R128). -/
def sameButIgnoredBits (s t : State) : Prop :=
  { s with osr := t.osr, txq := t.txq } = t ∧ s.txq.map window = t.txq.map window ∧
    untaken s = untaken t

end Sys2Proof.Machine
end

