-- ==== Sys2Proof/Certificates/Slice0/Obligations.lean ====
section
/-! DEFINITION. The statements for the provers, from the numbered rules of spec/. Where a statement
speaks of `step`, `closeHostTurn` and `closeCycle` are what every turn adds to its action (00_scope.md
R22): the schedule's entry is spent, and at the end of an engine cycle `contention`, `now`, the tick
counter and the console's drive move on (that the tick counter moves on by the constant TICKS_PER_CYCLE
is the model's choice, log 18; that a turn before `init` lets time pass as well, log 15). Where an
operation returns, what it returns stands in `result` (log 17) and the snapshot it was given is gone
(log 19). -/

open Sys2Proof Sys2Proof.Machine

/-! ## Encodings and pure functions -/

/-- R123, R122: exact match of all 8 bits against five values, anything else Unknown, and each tag
selects its own row in each of the two phases. -/
def Obligations.CommandBytesClassifyByExactMatch : Prop :=
  ∀ b : Byte,
    (classify b = .probe ↔ b = 0x00#8) ∧ (classify b = .reset ↔ b = 0xFF#8) ∧
    (classify b = .origin ↔ b = 0x41#8) ∧ (classify b = .recalibrate ↔ b = 0x42#8) ∧
    (classify b = .poll ↔ b = 0x40#8) ∧
    (classify b = .unknown ↔ b ≠ 0x00#8 ∧ b ≠ 0xFF#8 ∧ b ≠ 0x41#8 ∧ b ≠ 0x42#8 ∧ b ≠ 0x40#8) ∧
    decode .handshaking (.cmd8 b) =
      .ok (if b = 0x00#8 then .probeHs else if b = 0xFF#8 then .resetHs
        else if b = 0x41#8 then .originHs else if b = 0x42#8 then .recalHs
        else if b = 0x40#8 then .pollHs else .unkHs b) ∧
    decode .idle (.cmd8 b) =
      .ok (if b = 0x00#8 then .probeSs else if b = 0xFF#8 then .resetSs
        else if b = 0x41#8 then .originSs else if b = 0x42#8 then .recalSs
        else if b = 0x40#8 then .pollSs else .unkSs b)

/-- Sanity: words written out from R122, R128, R129, R126 and R127 decode to their rows. -/
def Obligations.SampleWordsDecodeToTheirRows : Prop :=
  decode .handshaking (.cmd8 0b01000001#8) = .ok .originHs ∧
  decode .idle (.cmd8 0b01000000#8) = .ok .pollSs ∧
  decode .idle (.cmd8 0b01110111#8) = .ok (.unkSs 0x77#8) ∧
  decode .transmit (.txw32 0b00001001000000000000000000000000#32) = .ok (.txwMore 0x09#8 0#23) ∧
  decode .transmit (.txw32 0b00000011100000000000000000000000#32) = .ok (.txwLast 0x03#8 0#23) ∧
  decode .dataCell (.cell 0b1000#4) = .ok .cell0 ∧
  decode .dataCell (.cell 0b1011#4) = .ok .cell1 ∧
  decode .stopCell (.cell 0b1011#4) = .ok .cellStop

/-- Decode and encode agree, for every instruction with every operand: no bit of an encoding is
dropped (R122, R126, R127, R128). -/
def Obligations.DecodingAnEncodedInstructionGivesItBack : Prop :=
  ∀ i : Instr, i.wellFormed = true → decode i.space (encode i) = .ok i

/-- What the decoder reads from an object is a well-formed instruction of the place it was read from,
and encoding it gives the same bits: no two objects of one place share an instruction. -/
def Obligations.EncodingADecodedObjectGivesItsBitsBack : Prop :=
  ∀ (sp : Space) (x : Code) (i : Instr), decode sp x = .ok i →
    i.wellFormed = true ∧ i.space = sp ∧ encode i = x

/-- R129, an inference of the spec from R128: the word `send_bytes` makes of a payload byte is the row
TXW.LAST or TXW.MORE of that byte with the ignored bits 0. -/
def Obligations.AssembledWordCarriesItsByteAndFlag : Prop :=
  ∀ (b : Byte) (last : Bool),
    decode .transmit (.txw32 (txWord b last)) =
      .ok (if last then .txwLast b 0#23 else .txwMore b 0#23)

/-- R135, R136, R137: the eight bytes of the report, bit by bit. -/
def Obligations.ReportPlacesEveryButtonAndAxis : Prop :=
  ∀ p : Snapshot, ∃ r0 r1 : Byte,
    report p = [r0, r1, p.stickX, p.stickY, p.cstickX, p.cstickY, p.lAnalog, p.rAnalog] ∧
    r0.getLsbD 0 = p.a ∧ r0.getLsbD 1 = p.b ∧ r0.getLsbD 2 = p.x ∧ r0.getLsbD 3 = p.y ∧
    r0.getLsbD 4 = p.start ∧ r0.getLsbD 5 = false ∧ r0.getLsbD 6 = false ∧ r0.getLsbD 7 = false ∧
    r1.getLsbD 0 = p.dpadLeft ∧ r1.getLsbD 1 = p.dpadRight ∧ r1.getLsbD 2 = p.dpadDown ∧
    r1.getLsbD 3 = p.dpadUp ∧ r1.getLsbD 4 = p.z ∧ r1.getLsbD 5 = p.rDigital ∧
    r1.getLsbD 6 = p.lDigital ∧ r1.getLsbD 7 = true

/-- R138: `Report` is injective and its image is exactly the 8-byte lists with `r[0][7:5] = 0` and
`r[1][7] = 1`. -/
def Obligations.ReportIsInjectiveWithExactImage : Prop :=
  (∀ p q : Snapshot, report p = report q → p = q) ∧
  (∀ l : List Byte, (∃ p : Snapshot, report p = l) ↔
    ∃ r0 r1 r2 r3 r4 r5 r6 r7 : Byte, l = [r0, r1, r2, r3, r4, r5, r6, r7] ∧
      r0.extractLsb' 5 3 = 0#3 ∧ r1.getLsbD 7 = true)

/-! ## The command bytes -/

/-- R265 to R268: the four commands answered with a canned reply in Handshaking. The instruction's
step enters its responding phase and begins `delay_us(4)` before the reply: PROBE and RESET the
identity reply, ORIGIN and RECAL the calibration reply whose byte 1 is 0x80; nothing else of the
state changes. What follows is `ReplyDelayEndsInTheSend`, `SendQueuesTheWholePayload` and
`FinishedSendReturnsToItsOperation` (that an instruction is taken up in one step is the model's
choice, log 7). -/
def Obligations.CannedRepliesBeginInHandshaking : Prop :=
  ∀ s : State,
    (∀ i, i = Instr.probeHs ∨ i = Instr.resetHs →
      exec i s = .next { s with
        phase := .respondingResetOrProbe
        host := .delay (s.now + 4 * s.cfg.k) (.reply [0x09#8, 0x00#8, 0x03#8] .handshake) }) ∧
    (∀ i, i = Instr.originHs ∨ i = Instr.recalHs →
      exec i s = .next { s with
        phase := .respondingRecalOrOrigin
        host := .delay (s.now + 4 * s.cfg.k)
          (.reply [0x00#8, 0x80#8, 0x80#8, 0x80#8, 0x80#8, 0x80#8, 0x00#8, 0x00#8, 0x00#8, 0x00#8]
            .handshake) })

/-- R269: POLL in Handshaking begins the send of the snapshot's report at once (taken up in one step by
the model's choice, log 7). -/
def Obligations.PollInHandshakingSendsTheReportAtOnce : Prop :=
  ∀ s : State,
    exec .pollHs s = .next { s with
      phase := .respondingPoll
      host := .waitLine (report s.snapshot) .handshake }

/-- R270, R278, R280: UNK enters ErrorRecovery in both phases, whatever the byte, and sends nothing;
only the operation it returns to differs (taken up in one step by the model's choice, log 7). -/
def Obligations.UnknownByteEntersErrorRecovery : Prop :=
  ∀ (op : Byte) (s : State),
    exec (.unkHs op) s = .next { s with
      phase := .errorRecovery
      host := .delay (s.now + 130 * s.cfg.k) (.recover .handshake) } ∧
    exec (.unkSs op) s = .next { s with
      phase := .errorRecovery
      host := .delay (s.now + 130 * s.cfg.k) (.recover .waitForPoll) }

/-- R273 to R276: the same four commands in Idle: the same identity reply, and the calibration reply
whose byte 1 is 0x01; the reply returns to the poll loop (taken up in one step by the model's choice,
log 7). -/
def Obligations.CannedRepliesBeginInIdle : Prop :=
  ∀ s : State,
    (∀ i, i = Instr.probeSs ∨ i = Instr.resetSs →
      exec i s = .next { s with
        phase := .respondingResetOrProbe
        host := .delay (s.now + 4 * s.cfg.k) (.reply [0x09#8, 0x00#8, 0x03#8] .waitForPoll) }) ∧
    (∀ i, i = Instr.originSs ∨ i = Instr.recalSs →
      exec i s = .next { s with
        phase := .respondingRecalOrOrigin
        host := .delay (s.now + 4 * s.cfg.k)
          (.reply [0x00#8, 0x01#8, 0x80#8, 0x80#8, 0x80#8, 0x80#8, 0x00#8, 0x00#8, 0x00#8, 0x00#8]
            .waitForPoll) })

/-- R277: POLL in Idle: `phase <- PollPending` and `wait_for_poll` returns; nothing is delayed,
discarded or sent. That the command is taken up in one step, and that what the return gives the
caller stands in `result`, are the model's choices (log 7, log 17); no snapshot is stored once an
operation has returned (log 19). -/
def Obligations.PollInIdleReturnsToTheCaller : Prop :=
  ∀ s : State,
    exec .pollSs s = .next { s with
      phase := .pollPending
      host := .outside
      snapshot := Snapshot.clear
      result := some .done }

/-- R124: no command byte is illegal: wherever the session dispatches one, the step has a next state. -/
def Obligations.EveryDispatchedByteHasANextState : Prop :=
  ∀ (s : State) (b : Byte), turn s = .host → s.host = .dispatch b →
    (s.phase = .handshaking ∨ s.phase = .idle) → ∃ t : State, step s = .next t

/-! ## The engine input words and the cells -/

/-- R173, R178, R128: a word is taken whole into `osr` from the head of TXQ and opens a window of 9
bits; `WR_PULL2` goes on at `WR_SHIFT2`, `WR_PULL` at `WR_SHIFT` (that the word's instruction is its
take-up is the model's choice, log 8). -/
def Obligations.EngineWordOpensANineBitWindow : Prop :=
  ∀ (data : Byte) (ignored : BitVec 23) (s : State),
    (s.cursor = .wrPull →
      exec (.txwMore data ignored) s = .next { s with
        osr := (data ++ 0#1) ++ ignored, osrCnt := 9, txq := s.txq.tail, cursor := .wrShift } ∧
      exec (.txwLast data ignored) s = .next { s with
        osr := (data ++ 1#1) ++ ignored, osrCnt := 9, txq := s.txq.tail, cursor := .wrShift }) ∧
    (s.cursor = .wrPull2 →
      exec (.txwMore data ignored) s = .next { s with
        osr := (data ++ 0#1) ++ ignored, osrCnt := 9, txq := s.txq.tail, cursor := .wrShift2 } ∧
      exec (.txwLast data ignored) s = .next { s with
        osr := (data ++ 1#1) ++ ignored, osrCnt := 9, txq := s.txq.tail, cursor := .wrShift2 })

/-- R126, R183, R127, R188: every cell opens with the wire low for `C1 = K` cycles; the value phase
of a data cell follows with the cell's value in `xbit`, the high phase of the stop cell follows its
low (that the low pulse is where a cell is taken up is the model's choice, log 8; the whole cell on
the wire is `QueuedPayloadIsDrivenAsOneGapFreeFrame`). -/
def Obligations.CellsOpenWithALowPulse : Prop :=
  ∀ s : State,
    exec .cell0 s = .next { s with
      pinOut := false, xbit := false, ctr := s.cfg.k - 1, cursor := .wrVal } ∧
    exec .cell1 s = .next { s with
      pinOut := false, xbit := true, ctr := s.cfg.k - 1, cursor := .wrVal } ∧
    exec .cellStop s = .next { s with
      pinOut := false, ctr := s.cfg.k - 1, cursor := .wrStopHigh }

/-! ## A step runs the decoded instruction -/

/-- A host turn at a dispatch runs the decoded command byte; the phase selects the row (R125). -/
def Obligations.StepRunsTheDispatchedCommand : Prop :=
  ∀ (s : State) (b : Byte), turn s = .host → s.host = .dispatch b →
    (s.phase = .handshaking →
      step s = onNext closeHostTurn (exec (decodeHandshaking b) s)) ∧
    (s.phase = .idle →
      step s = onNext closeHostTurn (exec (decodeIdle b) s))

/-- An engine cycle in a pull with the window exhausted and a word in TXQ runs the decoded word. -/
def Obligations.StepRunsThePulledWord : Prop :=
  ∀ (s : State) (w : Word) (rest : List Word), turn s = .engine → s.ctr = 0 → s.txq = w :: rest →
    (s.cursor = .wrPull ∧ s.osrCnt = 0 ∨ s.cursor = .wrPull2) →
    step s = onNext (closeCycle s)
      (exec (if w.getLsbD 23 then .txwLast (w.extractLsb' 24 8) (w.extractLsb' 0 23)
        else .txwMore (w.extractLsb' 24 8) (w.extractLsb' 0 23)) s)

/-- An engine cycle in `WR_LOW` runs the data cell of `xbit`, one in `WR_STOP_LOW` the stop cell. -/
def Obligations.StepRunsTheOpenedCell : Prop :=
  ∀ s : State, turn s = .engine → s.ctr = 0 →
    (s.cursor = .wrLow →
      step s = onNext (closeCycle s) (exec (if s.xbit then .cell1 else .cell0) s)) ∧
    (s.cursor = .wrStopLow → step s = onNext (closeCycle s) (exec .cellStop s))

/-! ## The engine, micro-state by micro-state -/

/-- R163: after `init`, while `ctr > 0` an engine cycle only counts down. R54, R360: before `init` the
engine has no step: its turn changes nothing of the core, whatever `ctr` holds (that time passes in it
all the same is log 15). -/
def Obligations.DelayCycleOnlyCountsDown : Prop :=
  ∀ s : State, turn s = .engine →
    (s.cursor ≠ .unstarted → 0 < s.ctr →
      step s = .next (closeCycle s { s with ctr := s.ctr - 1 })) ∧
    (s.cursor = .unstarted → step s = .next (closeCycle s s))

/-- R164, R171: the two entries set the direction and nothing else. -/
def Obligations.EntryStatesSetTheDirection : Prop :=
  ∀ s : State, turn s = .engine → s.ctr = 0 →
    (s.cursor = .rdEntry →
      step s = .next (closeCycle s { s with dir := .input, cursor := .rdWaitHigh })) ∧
    (s.cursor = .wrEntry →
      step s = .next (closeCycle s { s with dir := .output, cursor := .wrHigh }))

/-- R165, R166: the read loop waits for the wire high, then for the wire low, then for the middle of
the value phase (`C1 + C2/2 - 1` more cycles, with `C1 = K` and `C2 = 2K`). -/
def Obligations.ReadLoopWaitsForAFallingEdge : Prop :=
  ∀ s : State, turn s = .engine → s.ctr = 0 →
    (s.cursor = .rdWaitHigh →
      step s = .next (closeCycle s (if line s then { s with cursor := .rdWaitLow } else s))) ∧
    (s.cursor = .rdWaitLow →
      step s = .next (closeCycle s (if line s then s
        else { s with ctr := s.cfg.k + 2 * s.cfg.k / 2 - 1, cursor := .rdSample })))

/-- R167, R168: the sample is shifted into bit 0 of `isr`; the eighth bit delivers the byte, or with
RXQ full marks the overrun and holds it. -/
def Obligations.SampleShiftsInAndTheEighthBitDelivers : Prop :=
  ∀ (s : State) (byte : Byte), turn s = .engine → s.ctr = 0 → s.cursor = .rdSample →
    byte = (s.isr <<< 1) ||| (if line s then 1#8 else 0#8) →
    (s.isrCnt ≠ 7 →
      step s = .next (closeCycle s { s with
        isr := byte, isrCnt := s.isrCnt + 1, cursor := .rdWaitHigh })) ∧
    (s.isrCnt = 7 → s.rxq.length < s.cfg.qdepth →
      step s = .next (closeCycle s { s with
        rxq := s.rxq ++ [byte], isr := 0, isrCnt := 0, cursor := .rdWaitHigh })) ∧
    (s.isrCnt = 7 → s.cfg.qdepth ≤ s.rxq.length →
      step s = .next (closeCycle s { s with
        isr := byte, isrCnt := 8, rxOverrun := true, cursor := .rdPushStall }))

/-- R169: a held byte waits for room and is then delivered. -/
def Obligations.HeldByteIsDeliveredOnceThereIsRoom : Prop :=
  ∀ s : State, turn s = .engine → s.ctr = 0 → s.cursor = .rdPushStall →
    step s = .next (closeCycle s
      (if s.rxq.length < s.cfg.qdepth then
        { s with rxq := s.rxq ++ [s.isr], isr := 0, isrCnt := 0, cursor := .rdWaitHigh }
      else s))

/-- R172, R174, R179: `WR_HIGH` drives high; the two shifts take bit 31 of `osr`. The premise that the
window still holds a bit is not in R174 and R179: a shift of an exhausted window is the model's fault
`windowUnderflow` (log 13; the spec infers in R162 that no run makes one). -/
def Obligations.WriteLoopDrivesHighAndTakesTheTopBit : Prop :=
  ∀ s : State, turn s = .engine → s.ctr = 0 →
    (s.cursor = .wrHigh →
      step s = .next (closeCycle s { s with pinOut := true, cursor := .wrPull })) ∧
    (s.cursor = .wrShift → 0 < s.osrCnt →
      step s = .next (closeCycle s { s with
        xbit := s.osr.getLsbD 31, osr := s.osr <<< 1, osrCnt := s.osrCnt - 1,
        cursor := .wrTest9 })) ∧
    (s.cursor = .wrShift2 → 0 < s.osrCnt →
      step s = .next (closeCycle s { s with
        xbit := s.osr.getLsbD 31, osr := s.osr <<< 1, osrCnt := s.osrCnt - 1,
        cursor := .wrJmpFast }))

/-- R173, R175, R178: a pull with an exhausted window and an empty TXQ changes nothing but time; a
pull inside a window goes on without a refill. -/
def Obligations.PullStallsOnAnEmptyQueueOnly : Prop :=
  ∀ s : State, turn s = .engine → s.ctr = 0 →
    (s.cursor = .wrPull → s.osrCnt = 0 → s.txq = [] → step s = .next (closeCycle s s)) ∧
    (s.cursor = .wrPull2 → s.txq = [] → step s = .next (closeCycle s s)) ∧
    (s.cursor = .wrPull → 0 < s.osrCnt →
      step s = .next (closeCycle s { s with cursor := .wrShift }))

/-- R176, R177, R180, R181, R182, R187: the tests and the padding states of the write loop change
nothing but the cursor and the delay (`C3 = K`): the ninth bit is told by the exhausted window, and
it ends the frame when it is 1. -/
def Obligations.WriteLoopTestsAndPads : Prop :=
  ∀ s : State, turn s = .engine → s.ctr = 0 →
    (s.cursor = .wrTest9 →
      step s = .next (closeCycle s { s with
        cursor := if s.osrCnt ≠ 0 then .wrPadBit else .wrTestStop })) ∧
    (s.cursor = .wrTestStop →
      step s = .next (closeCycle s { s with
        cursor := if s.xbit = true then .wrPadStop else .wrPull2 })) ∧
    (s.cursor = .wrJmpFast → step s = .next (closeCycle s { s with cursor := .wrPadFast })) ∧
    (s.cursor = .wrPadBit →
      step s = .next (closeCycle s { s with ctr := 3, cursor := .wrPadFast })) ∧
    (s.cursor = .wrPadFast →
      step s = .next (closeCycle s { s with ctr := s.cfg.k - 9, cursor := .wrLow })) ∧
    (s.cursor = .wrPadStop →
      step s = .next (closeCycle s { s with ctr := s.cfg.k - 6, cursor := .wrStopLow }))

/-- R184, R185, R186, R189: the value phase, the loop, the stop's high phase and the return to read. -/
def Obligations.ValuePhaseAndReturnToRead : Prop :=
  ∀ s : State, turn s = .engine → s.ctr = 0 →
    (s.cursor = .wrVal →
      step s = .next (closeCycle s { s with
        pinOut := s.xbit, ctr := 2 * s.cfg.k - 2, cursor := .wrLoop })) ∧
    (s.cursor = .wrLoop → step s = .next (closeCycle s { s with cursor := .wrHigh })) ∧
    (s.cursor = .wrStopHigh →
      step s = .next (closeCycle s { s with
        pinOut := true, ctr := 2 * s.cfg.k - 2, cursor := .wrToRead })) ∧
    (s.cursor = .wrToRead → step s = .next (closeCycle s { s with cursor := .rdEntry }))

/-! ## The wire -/

/-- R84: the level of the wire once the core is initialised; R360: before `init` it is as with `dir`
Input, whatever `dir` holds. The console's drive in this cycle is the head of its script, and after the
script one drive for ever or any drive whatever (the form of the script is the model's choice, log 1). -/
def Obligations.LineIsDrivenByTheCoreOrTheConsole : Prop :=
  ∀ s : State,
    (s.cursor ≠ .unstarted → s.dir = .output → line s = s.pinOut) ∧
    (s.cursor = .unstarted ∨ s.dir = .input → consoleNow s = .driveLow → line s = false) ∧
    (s.cursor = .unstarted ∨ s.dir = .input → consoleNow s = .release → line s = true) ∧
    (∀ (d : Drive) (rest : List Drive), s.console = d :: rest → consoleNow s = d) ∧
    (∀ d : Drive, s.console = [] → s.consoleRest = .hold d → consoleNow s = d) ∧
    (∀ n : Nat, s.console = [] → s.consoleRest = .free n →
      consoleNow s = if Config.consoleDrivesLow n s.now then .driveLow else .release)

/-- R170 (an inference of the spec from R164 to R168): from the read loop waiting for an edge with no
partial byte and room in RXQ, a well-formed console frame is delivered byte by byte, and the stop
pulse leaves one stray bit (that the tick counter advances by a constant a cycle is the model's choice,
log 18). -/
def Obligations.ConsoleFrameIsReceivedAndLeavesAStrayBit : Prop :=
  ∀ (s : State) (bytes : List Byte) (rest : List Drive) (n : Nat),
    bytes ≠ [] → configOk s.cfg = true → s.cursor = .rdWaitLow → s.ctr = 0 → s.dir = .input →
    s.isr = 0 → s.isrCnt = 0 → s.rxq.length + bytes.length ≤ s.cfg.qdepth →
    s.console = consoleFrame s.cfg bytes ++ rest →
    n = 8 * bytes.length * (4 * s.cfg.k) + 2 * s.cfg.k + 1 → engineOnly n s →
    ∃ t : State, runSteps n s = .next t ∧
      t = { s with
        cursor := .rdWaitHigh, isr := 1, isrCnt := 1, rxq := s.rxq ++ bytes
        now := s.now + n, tick := s.tick + n * s.cfg.ticksPerCycle
        console := s.console.drop n, sched := s.sched.drop n }

/-- R190, R191 (inferences of the spec from R161): from `WR_HIGH` with the payload's words queued, the
wire carries the cells of its bits without a gap and one stop cell, and is then released. The first
cycle is that in which `WR_HIGH` acts. -/
def Obligations.QueuedPayloadIsDrivenAsOneGapFreeFrame : Prop :=
  ∀ (s : State) (payload : List Byte) (n : Nat),
    payload ≠ [] → configOk s.cfg = true → s.cursor = .wrHigh → s.ctr = 0 → s.dir = .output →
    s.pinOut = true → s.osrCnt = 0 → s.txq = txWords payload →
    n = 1 + (8 * payload.length + 1) * (4 * s.cfg.k) → engineOnly n s →
    lineTrace n s = true :: drivenFrame s.cfg payload ∧
    ∃ t : State, runSteps n s = .next t ∧ t.cursor = .rdWaitHigh ∧ t.ctr = 0 ∧ t.dir = .input ∧
      t.pinOut = true ∧ t.osrCnt = 0 ∧ t.txq = [] ∧ t.rxq = s.rxq ∧ t.isr = s.isr ∧
      t.isrCnt = s.isrCnt ∧ t.now = s.now + n

/-! ## Whole-machine rules -/

/-- The state after reset, which is the state `init` leaves (log 3), meets both invariants. -/
def Obligations.ResetMeetsTheInvariants : Prop := EngineInv State.reset ∧ SessionInv State.reset

/-- R53, R32, R162 (inferences of the spec): the engine's invariant is kept by every step. -/
def Obligations.EveryStepKeepsTheEngineInvariant : Prop :=
  ∀ s t : State, EngineInv s → step s = .next t → EngineInv t

/-- R262, R331, R284: the agreement of the host's position, the phase and the ownership of the transport
is kept by every step, and so is that no snapshot is stored outside the operations that were given one
(which the field `snapshot` shows by being clear, log 19). -/
def Obligations.EveryStepKeepsTheSessionInvariant : Prop :=
  ∀ s t : State, SessionInv s → step s = .next t → SessionInv t

/-- R162 (4), R20: no step from a state that meets the engine's invariant faults. -/
def Obligations.NoStepFaultsUnderTheInvariant : Prop :=
  ∀ (s : State) (f : Fault), EngineInv s → step s ≠ .fault f

/-- R325, R327 (4): under the session's invariant a step is refused only where a call stands to be
taken: the host is outside every operation, or a second thread calls (that a second thread stands in
`calls` is the model's choice, log 12). -/
def Obligations.OnlyCallsAreRefused : Prop :=
  ∀ (s : State) (r : Refusal), SessionInv s → step s = .refused r →
    turn s = .host ∧ s.calls ≠ [] ∧ (s.host = .outside ∨ secondThreadCalls s = true)

/-- R44, R85, R168: when the sticky flags are set, and that nothing clears them. Before `init` nothing
sets `contention`, whatever `dir` holds: R360 takes the wire there as with `dir` Input (log 15). -/
def Obligations.StickyFlagsAreSetExactlyAndNeverCleared : Prop :=
  ∀ s t : State, step s = .next t →
    (t.contention = true ↔ s.contention = true ∨
      (turn s = .engine ∧ s.cursor ≠ .unstarted ∧ s.dir = .output ∧
        consoleNow s = .driveLow)) ∧
    (t.rxOverrun = true ↔ s.rxOverrun = true ∨
      (turn s = .engine ∧ s.ctr = 0 ∧ s.cursor = .rdSample ∧ s.isrCnt = 7 ∧
        s.cfg.qdepth ≤ s.rxq.length))

/-- R44: "no rule of the core reads them": the machine runs alike whatever the two flags hold. -/
def Obligations.StickyFlagsAreReadByNothing : Prop :=
  ∀ (s : State) (overrun clashed : Bool),
    onNext (fun t => { t with rxOverrun := false, contention := false })
        (step { s with rxOverrun := overrun, contention := clashed }) =
      onNext (fun t => { t with rxOverrun := false, contention := false }) (step s)

/-- R128, R37: bits 22 to 0 of a word, and the bits of `osr` outside the window, are never examined:
two states that differ only there stay so, stop alike, and show the same wire. -/
def Obligations.IgnoredBitsAreNeverExamined : Prop :=
  ∀ s t : State, sameButIgnoredBits s t →
    line s = line t ∧ turn s = turn t ∧
    match step s, step t with
    | .next s', .next t' => sameButIgnoredBits s' t'
    | .fault f, .fault g => f = g
    | .refused q, .refused r => q = r
    | _, _ => False

/-- R33: the direction is written by `RD_ENTRY` (to Input), by `WR_ENTRY` (to Output) and by `init`
(to Input), and by nothing else; a restart in particular does not write it. -/
def Obligations.DirectionIsWrittenOnlyByEntriesAndInit : Prop :=
  ∀ s t : State, step s = .next t →
    (t.dir ≠ s.dir →
      (turn s = .engine ∧ s.ctr = 0 ∧ (s.cursor = .rdEntry ∨ s.cursor = .wrEntry)) ∨
      (turn s = .host ∧ s.host = .outside ∧ s.calls.head? = some ⟨.host, .init⟩)) ∧
    (turn s = .engine → s.ctr = 0 → s.cursor = .rdEntry → t.dir = .input) ∧
    (turn s = .engine → s.ctr = 0 → s.cursor = .wrEntry → t.dir = .output) ∧
    (turn s = .host → s.host = .outside → s.calls.head? = some ⟨.host, .init⟩ → t.dir = .input)

/-- R162 (1) and (2) (inferences of the spec from R161): read mode enters write mode only by
`restart_for_write`, and write mode leaves to read mode only by a restart or through `WR_TO_READ`. -/
def Obligations.ModesChangeOnlyByRestartOrAfterAStopCell : Prop :=
  ∀ s t : State, step s = .next t →
    (readMode s.cursor = true → writeMode t.cursor = true →
      turn s = .host ∧ t.cursor = .wrEntry ∧ t.rxq = [] ∧ t.txq = [] ∧ t.isr = 0 ∧ t.isrCnt = 0 ∧
        t.osrCnt = 0 ∧ t.ctr = 0) ∧
    (writeMode s.cursor = true → readMode t.cursor = true →
      t.cursor = .rdEntry ∧
        ((turn s = .host ∧ t.rxq = [] ∧ t.txq = [] ∧ t.isr = 0 ∧ t.isrCnt = 0 ∧ t.osrCnt = 0 ∧
            t.ctr = 0) ∨
          (turn s = .engine ∧ s.ctr = 0 ∧ s.cursor = .wrToRead ∧ t.rxq = s.rxq ∧ t.txq = s.txq)))

/-- R94, R96, R41, R42: the queues are first-in first-out: the engine appends to RXQ and removes from
the head of TXQ, the host removes from the head of RXQ and appends to TXQ, and only a restart clears
them, both at once. -/
def Obligations.QueuesAreFirstInFirstOut : Prop :=
  ∀ s t : State, step s = .next t →
    (turn s = .engine →
      (t.rxq = s.rxq ∨ ∃ b : Byte, t.rxq = s.rxq ++ [b]) ∧
      (t.txq = s.txq ∨ ∃ w : Word, s.txq = w :: t.txq)) ∧
    (turn s = .host →
      (t.rxq = [] ∧ t.txq = [] ∧ (t.cursor = .rdEntry ∨ t.cursor = .wrEntry)) ∨
      ((t.rxq = s.rxq ∨ ∃ b : Byte, s.rxq = b :: t.rxq) ∧
        (t.txq = s.txq ∨ ∃ w : Word, t.txq = s.txq ++ [w])))

/-- R55, R371 (R55 is an inference of the spec from R31 to R48): the host changes the engine's
registers only by a restart, its own or that of `init`, and `dir` and `pin_out` only by `init`. -/
def Obligations.HostReachesTheEngineOnlyByRestart : Prop :=
  ∀ s t : State, step s = .next t → turn s = .host →
    t.osr = s.osr ∧ t.xbit = s.xbit ∧ t.now = s.now ∧ t.tick = s.tick ∧ t.console = s.console ∧
    t.consoleRest = s.consoleRest ∧ t.cfg = s.cfg ∧ t.rxOverrun = s.rxOverrun ∧ t.contention = s.contention ∧
    ((t.cursor = s.cursor ∧ t.ctr = s.ctr ∧ t.isr = s.isr ∧ t.isrCnt = s.isrCnt ∧
        t.osrCnt = s.osrCnt ∧ t.dir = s.dir ∧ t.pinOut = s.pinOut) ∨
      ((t.cursor = .rdEntry ∨ t.cursor = .wrEntry) ∧ t.ctr = 0 ∧ t.isr = 0 ∧ t.isrCnt = 0 ∧
        t.osrCnt = 0 ∧ t.rxq = [] ∧ t.txq = [] ∧
        ((t.dir = s.dir ∧ t.pinOut = s.pinOut) ∨
          (s.host = .outside ∧ s.calls.head? = some ⟨.host, .init⟩ ∧ t.dir = .input ∧
            t.pinOut = true))))

/-- R55, R22 (R55 is an inference of the spec): an engine cycle leaves the host and the session alone
and advances time by one cycle (that the tick counter advances by a constant is the model's choice,
log 18). -/
def Obligations.EngineCycleLeavesTheSessionAlone : Prop :=
  ∀ s t : State, step s = .next t → turn s = .engine →
    t.phase = s.phase ∧ t.timeout = s.timeout ∧ t.owned = s.owned ∧ t.host = s.host ∧
    t.snapshot = s.snapshot ∧ t.calls = s.calls ∧ t.result = s.result ∧ t.cfg = s.cfg ∧
    t.now = s.now + 1 ∧ t.tick = s.tick + s.cfg.ticksPerCycle ∧ t.console = s.console.tail ∧
    t.consoleRest = s.consoleRest

/-- R101: half duplex: an engine cycle in write mode samples nothing; one in read mode takes nothing
from the transmit side, does not touch the pin's latch and, but for the one cycle of `RD_ENTRY`, does
not drive the wire (this last in the states of the engine's invariant). -/
def Obligations.EngineNeverSamplesAndDrivesInOneMode : Prop :=
  ∀ s t : State, step s = .next t → turn s = .engine →
    (writeMode s.cursor = true → t.isr = s.isr ∧ t.isrCnt = s.isrCnt ∧ t.rxq = s.rxq) ∧
    (readMode s.cursor = true →
      t.pinOut = s.pinOut ∧ t.osr = s.osr ∧ t.osrCnt = s.osrCnt ∧ t.xbit = s.xbit ∧
        t.txq = s.txq) ∧
    (EngineInv s → readMode s.cursor = true → s.cursor ≠ .rdEntry → driving s = false)

/-! ## Host operations -/

/-- R361: `init`, from any state whose caller invokes it outside every operation. That it drops a
session that owned the transport is log 14, the field `result` log 17, the snapshot log 19. -/
def Obligations.InitPlacesTheEngineAtTheReadEntry : Prop :=
  ∀ (s : State) (rest : List Call), turn s = .host → s.host = .outside →
    s.calls = ⟨.host, .init⟩ :: rest →
    (9 ≤ s.cfg.k → 1 ≤ s.cfg.qdepth →
      step s = .next { s with
        dir := .input, pinOut := true, rxq := [], txq := [], isr := 0, isrCnt := 0, osrCnt := 0
        ctr := 0, cursor := .rdEntry, phase := .noSession, owned := false, host := .outside
        snapshot := Snapshot.clear, result := some .transport, calls := rest, sched := s.sched.tail }) ∧
    (s.cfg.k < 9 ∨ s.cfg.qdepth < 1 → step s = .refused .badConfig)

/-- R222, R223: a restart clears both queues, the partial byte, the window and the delay, places the
cursor, and changes nothing else of the core (as a call of the caller's: what it returns stands in
`result`, log 17, and no snapshot is stored once it has returned, log 19). -/
def Obligations.RestartsFlushAndPlaceTheCursor : Prop :=
  ∀ s : State,
    restartForRead s = { s with
      rxq := [], txq := [], isr := 0, isrCnt := 0, osrCnt := 0, ctr := 0, cursor := .rdEntry } ∧
    restartForWrite s = { s with
      rxq := [], txq := [], isr := 0, isrCnt := 0, osrCnt := 0, ctr := 0, cursor := .wrEntry } ∧
    restartForRead (restartForRead s) = restartForRead s ∧
    ∀ rest : List Call, turn s = .host → s.host = .outside → s.owned = false →
      s.cursor ≠ .unstarted →
      (s.calls = ⟨.host, .restartForRead⟩ :: rest →
        step s = .next (closeHostTurn
          { restartForRead s with
            calls := rest, snapshot := Snapshot.clear, result := some .done })) ∧
      (s.calls = ⟨.host, .restartForWrite⟩ :: rest →
        step s = .next (closeHostTurn
          { restartForWrite s with
            calls := rest, snapshot := Snapshot.clear, result := some .done }))

/-- R363: before `init` every other operation is refused. -/
def Obligations.OperationsBeforeInitAreRefused : Prop :=
  ∀ (s : State) (op : HostOp) (rest : List Call), turn s = .host → s.host = .outside →
    s.cursor = .unstarted → s.calls = ⟨.host, op⟩ :: rest → op ≠ .init →
    step s = .refused .notInitialised

/-- R331, R325, R382: the caller may not use a transport a session owns, and a second thread may use
nothing, wherever the host stands but at a dispatch (the model's choice, log 12): on an initialised core
any call of its is refused as NotOwner, and so is its `init` before `init`. -/
def Obligations.OwnedTransportAndSecondThreadAreRefused : Prop :=
  ∀ (s : State) (op : HostOp) (rest : List Call), turn s = .host →
    (s.cursor ≠ .unstarted → s.host = .outside → s.owned = true → s.calls = ⟨.host, op⟩ :: rest →
      op ≠ .init → op ≠ .waitForPoll → (∀ p, op ≠ .respondToPoll p) →
      step s = .refused .notOwner) ∧
    (s.cursor ≠ .unstarted ∨ op = .init → (∀ b, s.host ≠ .dispatch b) →
      s.calls = ⟨.second, op⟩ :: rest → step s = .refused .notOwner)

/-- R272, R282, R226: session operations outside their phase and an empty payload are refused. -/
def Obligations.WrongPhaseAndEmptyPayloadAreRefused : Prop :=
  ∀ (s : State) (rest : List Call) (p : Snapshot), turn s = .host → s.host = .outside →
    s.cursor ≠ .unstarted →
    (s.calls = ⟨.host, .waitForPoll⟩ :: rest → s.phase ≠ .idle → step s = .refused .wrongPhase) ∧
    (s.calls = ⟨.host, .respondToPoll p⟩ :: rest → s.phase ≠ .pollPending →
      step s = .refused .wrongPhase) ∧
    (s.calls = ⟨.host, .sendBytes []⟩ :: rest → s.owned = false → step s = .refused .emptyPayload)

/-- R264, R272, R282, R224, R226: how the caller's operations begin (that the invocation is a step of its
own is the model's choice, log 16). -/
def Obligations.OperationsBeginAsTheirRulesSay : Prop :=
  ∀ (s : State) (rest : List Call) (p : Snapshot) (timeout : Nat) (payload : List Byte),
    turn s = .host → s.host = .outside → s.cursor ≠ .unstarted →
    (s.owned = false → s.calls = ⟨.host, .handshake timeout p⟩ :: rest →
      step s = .next (closeHostTurn { s with
        phase := .handshaking, timeout := timeout, snapshot := p
        host := .readTick timeout .handshake, calls := rest })) ∧
    (s.phase = .idle → s.calls = ⟨.host, .waitForPoll⟩ :: rest →
      step s = .next (closeHostTurn { s with
        host := .readTick s.timeout .waitForPoll, calls := rest })) ∧
    (s.phase = .pollPending → s.calls = ⟨.host, .respondToPoll p⟩ :: rest →
      step s = .next (closeHostTurn { s with
        phase := .respondingPoll, snapshot := p
        host := .delay (s.now + 40 * s.cfg.k) .discards, calls := rest })) ∧
    (s.owned = false → s.calls = ⟨.host, .receiveByte timeout⟩ :: rest →
      step s = .next (closeHostTurn { s with
        host := .readTick timeout .direct, calls := rest })) ∧
    (s.owned = false → payload ≠ [] → s.calls = ⟨.host, .sendBytes payload⟩ :: rest →
      step s = .next (closeHostTurn { s with
        host := .waitLine payload .direct, calls := rest }))

/-- R224, R264, R272, R282: every `receive_byte`, whichever operation makes it, reads the clock once,
then tests the queue first and the budget after it, again and again; called by the caller it returns
the oldest byte, or NoData once the budget is spent (what a byte and NoData come to in the session's own
receives is `ReceivedByteIsDispatchedOrDropped` and `NoDataIsFailureRecoveryOrIgnored`). That a test and
the return it leads to are one host step, where R221 counts the return as a step of its own, and that
the outcome stands in `result`, are the model's choices (log 16, log 17). -/
def Obligations.ReceiveTestsTheQueueBeforeTheClock : Prop :=
  ∀ (s : State) (timeout t0 : Nat), turn s = .host → secondThreadCalls s = false →
    (∀ k : RecvFor,
      (s.host = .readTick timeout k →
        step s = .next (closeHostTurn { s with host := .testQueue timeout s.tick k })) ∧
      (s.host = .testQueue timeout t0 k → s.rxq = [] →
        step s = .next (closeHostTurn { s with host := .testClock timeout t0 k })) ∧
      (s.host = .testClock timeout t0 k → s.tick - t0 < timeout →
        step s = .next (closeHostTurn { s with host := .testQueue timeout t0 k }))) ∧
    (∀ (b : Byte) (rest : List Byte), s.host = .testQueue timeout t0 .direct → s.rxq = b :: rest →
      step s = .next (closeHostTurn { s with
        rxq := rest, host := .outside, snapshot := Snapshot.clear, result := some (.byte b) })) ∧
    (s.host = .testClock timeout t0 .direct → timeout ≤ s.tick - t0 →
      step s = .next (closeHostTurn { s with
        host := .outside, snapshot := Snapshot.clear, result := some .noData }))

/-- R225 (4), S-P4: once the budget is spent, a receive that finds no byte returns within a pair of
host steps, whatever operation it belongs to (the division into host steps is the model's choice,
log 16; what is returned stands in `result`, log 17). -/
def Obligations.ReceiveReturnsWithinAPairOfHostSteps : Prop :=
  ∀ (s : State) (timeout t0 : Nat) (k : RecvFor),
    s.host = .testQueue timeout t0 k → s.rxq = [] → timeout ≤ s.tick - t0 →
    secondThreadCalls s = false → hostOnly 2 s →
    runSteps 2 s = .next { receivedNothing k s with sched := s.sched.drop 2 }

/-- R271, R279, R283, R282: what `NoData` comes to in the handshake, in the poll loop and in the two
discarded receives. That the clock test, the change of phase and the return are one host step, where
R221 counts the read of the clock and the return as two, and that the outcome stands in `result`, are
the model's choices (log 16, log 17). -/
def Obligations.NoDataIsFailureRecoveryOrIgnored : Prop :=
  ∀ (s : State) (timeout t0 : Nat), turn s = .host → secondThreadCalls s = false →
    timeout ≤ s.tick - t0 →
    (s.host = .testClock timeout t0 .handshake →
      step s = .next (closeHostTurn { s with
        phase := .failed, host := .outside, snapshot := Snapshot.clear
        result := some .handshakeFailure })) ∧
    (s.host = .testClock timeout t0 .waitForPoll →
      step s = .next (closeHostTurn { s with
        phase := .errorRecovery
        host := .delay (s.now + 130 * s.cfg.k) (.recover .waitForPoll) })) ∧
    (s.host = .testClock timeout t0 (.discard 2) →
      step s = .next (closeHostTurn { s with host := .readTick s.timeout (.discard 1) })) ∧
    (s.host = .testClock timeout t0 (.discard 1) →
      step s = .next (closeHostTurn { s with host := .delay (s.now + 4 * s.cfg.k) .report }))

/-- R264, R272, R282: what a received byte comes to: it is dispatched, or dropped unread. That the
removal leaves the host at a dispatch which is a step of its own is the model's choice (log 16). -/
def Obligations.ReceivedByteIsDispatchedOrDropped : Prop :=
  ∀ (s : State) (timeout t0 : Nat) (b : Byte) (rest : List Byte), turn s = .host →
    secondThreadCalls s = false → s.rxq = b :: rest →
    (s.host = .testQueue timeout t0 .handshake ∨ s.host = .testQueue timeout t0 .waitForPoll →
      step s = .next (closeHostTurn { s with rxq := rest, host := .dispatch b })) ∧
    (s.host = .testQueue timeout t0 (.discard 2) →
      step s = .next (closeHostTurn { s with
        rxq := rest, host := .readTick s.timeout (.discard 1) })) ∧
    (s.host = .testQueue timeout t0 (.discard 1) →
      step s = .next (closeHostTurn { s with
        rxq := rest, host := .delay (s.now + 4 * s.cfg.k) .report }))

/-- R333, R281, R282: no delay returns before its time, and then the reply, the discards or the report
follow. That the end of a delay is a host step of its own, and a host turn inside a delay an idle one
(R333 gives the host no step there), is the model's choice (log 16). -/
def Obligations.ReplyDelayEndsInTheSend : Prop :=
  ∀ (s : State) (deadline : Nat) (payload : List Byte) (k : SendFor), turn s = .host →
    secondThreadCalls s = false →
    (∀ d, s.host = .delay deadline d → s.now < deadline → step s = .next (closeHostTurn s)) ∧
    (s.host = .delay deadline (.reply payload k) → deadline ≤ s.now →
      step s = .next (closeHostTurn { s with host := .waitLine payload k })) ∧
    (s.host = .delay deadline .discards → deadline ≤ s.now →
      step s = .next (closeHostTurn { s with host := .readTick s.timeout (.discard 2) })) ∧
    (s.host = .delay deadline .report → deadline ≤ s.now →
      step s = .next (closeHostTurn { s with host := .waitLine (report s.snapshot) .respond }))

/-- R226, R227, R229, R129: from its line-idle wait with the wire high, a send of a payload that fits
the transmit queue restarts the engine for write, queues one word a byte in order with only the last
flagged, and returns in the step that appends the last (the count of host steps is the model's division,
log 16; what is returned stands in `result`, log 17). -/
def Obligations.SendQueuesTheWholePayload : Prop :=
  ∀ (s : State) (payload : List Byte) (k : SendFor) (n : Nat),
    s.host = .waitLine payload k → payload ≠ [] → payload.length ≤ s.cfg.qdepth → line s = true →
    secondThreadCalls s = false → n = payload.length + 2 → hostOnly n s →
    runSteps n s = .next { sendReturns k
      { restartForWrite s with txq := txWords payload } with sched := s.sched.drop n }

/-- R226, R227, R228, R223: the steps of a send, for a payload of any length: the two waits change
nothing while they last; on a high wire the restart for write comes next, then the pushes from byte 0; a
push with room appends one word, flagged exactly for the last byte, and the send returns in the step of
the last (R229). What it returns stands in `result` (log 17). R342: a console that never releases the
wire keeps the send in its line-idle wait for ever, with the engine in read mode and nothing queued or
driven (such a console is one value of the script's form, log 1). -/
def Obligations.SendWaitsForTheLineAndForRoom : Prop :=
  ∀ (s : State) (payload : List Byte) (k : SendFor), secondThreadCalls s = false →
    (turn s = .host →
      (s.host = .waitLine payload k → line s = false → step s = .next (closeHostTurn s)) ∧
      (s.host = .waitLine payload k → line s = true →
        step s = .next (closeHostTurn { s with host := .restartWrite payload k })) ∧
      (s.host = .restartWrite payload k →
        step s = .next (closeHostTurn { s with
          rxq := [], txq := [], isr := 0, isrCnt := 0, osrCnt := 0, ctr := 0, cursor := .wrEntry
          host := .push payload 0 k })) ∧
      ∀ (i : Nat) (b : Byte), payload[i]? = some b → s.host = .push payload i k →
        (s.cfg.qdepth ≤ s.txq.length → step s = .next (closeHostTurn s)) ∧
        (s.txq.length < s.cfg.qdepth → i + 1 ≠ payload.length →
          step s = .next (closeHostTurn { s with
            txq := s.txq ++ [txWord b false], host := .push payload (i + 1) k })) ∧
        (s.txq.length < s.cfg.qdepth → i + 1 = payload.length →
          step s = .next (closeHostTurn
            (sendReturns k { s with txq := s.txq ++ [txWord b true] })))) ∧
    (s.host = .waitLine payload k → readMode s.cursor = true → s.dir = .input →
      (∀ d ∈ s.console, d = Drive.driveLow) → s.consoleRest = .hold .driveLow →
      ∀ n : Nat, ∃ t : State, runSteps n s = .next t ∧ t.host = .waitLine payload k ∧
        line t = false ∧ readMode t.cursor = true ∧ t.dir = .input ∧ t.txq = s.txq)

/-- R226, R264, R272, R282: where a finished send returns to: its caller, a new session, the poll loop
or the caller of `respond_to_poll` (what is returned stands in `result`, log 17; the snapshot is gone,
log 19). -/
def Obligations.FinishedSendReturnsToItsOperation : Prop :=
  ∀ s : State,
    sendReturns .direct s = { s with
      host := .outside, snapshot := Snapshot.clear, result := some .done } ∧
    sendReturns .handshake s = { s with
      phase := .idle, owned := true, host := .outside, snapshot := Snapshot.clear
      result := some .session } ∧
    sendReturns .waitForPoll s = { s with
      phase := .idle, host := .readTick s.timeout .waitForPoll } ∧
    sendReturns .respond s = { s with
      phase := .idle, host := .outside, snapshot := Snapshot.clear, result := some .done }

/-- R280, R329: once its delay is over, ErrorRecovery restarts the engine for read and returns to
Idle: the handshake returns a session, the poll loop takes its next iteration. That this takes exactly
two host steps, the end of the delay and the restart with the phase and the return, is the model's
choice (log 16), and the session stands in `result` (log 17). -/
def Obligations.ErrorRecoveryRestartsAndReturnsToIdle : Prop :=
  ∀ (s : State) (deadline : Nat) (k : RecoverFor),
    s.host = .delay deadline (.recover k) → deadline ≤ s.now → secondThreadCalls s = false →
    hostOnly 2 s →
    runSteps 2 s = .next (match k with
      | .handshake => { restartForRead s with
          phase := .idle, owned := true, host := .outside, snapshot := Snapshot.clear
          result := some .session
          sched := s.sched.drop 2 }
      | .waitForPoll => { restartForRead s with
          phase := .idle, host := .readTick s.timeout .waitForPoll
          sched := s.sched.drop 2 })

/-- R265 to R268, R273 to R276, R281, R226: the whole answer to the eight commands with a canned
reply, for a payload that fits the transmit queue and a quiet wire: the dispatch, `D_RESP` of engine
cycles, and the host steps of the send. The words of the reply stand in TXQ, flagged at the last, the
engine is at its write entry, and the phase is Idle again: with a session returned from the
handshake, with the next receive begun in the poll loop. The division into host steps (log 16), the
session in `result` (log 17) and the constant advance of the tick counter (log 18) are the model's
choices. A reply longer than the transmit queue is sent by the steps of
`SendWaitsForTheLineAndForRoom`. -/
def Obligations.CannedReplyIsQueuedAfterItsDelay : Prop :=
  ∀ (s : State) (b : Byte) (payload : List Byte) (rest : List Agent) (n : Nat),
    s.host = .dispatch b → s.cursor = .rdWaitLow → s.ctr = 0 → s.dir = .input → s.console = [] →
    s.consoleRest = .hold .release →
    secondThreadCalls s = false → payload.length ≤ s.cfg.qdepth →
    n = payload.length + 3 →
    s.sched = .host :: (List.replicate (4 * s.cfg.k) .engine ++ (List.replicate n .host ++ rest)) →
    (s.phase = .handshaking →
      ((b = 0x00#8 ∨ b = 0xFF#8) ∧ payload = [0x09#8, 0x00#8, 0x03#8] ∨
        (b = 0x41#8 ∨ b = 0x42#8) ∧
          payload = [0x00#8, 0x80#8, 0x80#8, 0x80#8, 0x80#8, 0x80#8, 0x00#8, 0x00#8, 0x00#8, 0x00#8]) →
      runSteps (1 + 4 * s.cfg.k + n) s = .next { s with
        rxq := [], txq := txWords payload, isr := 0, isrCnt := 0, osrCnt := 0, cursor := .wrEntry
        phase := .idle, owned := true, host := .outside, snapshot := Snapshot.clear
        result := some .session
        now := s.now + 4 * s.cfg.k, tick := s.tick + 4 * s.cfg.k * s.cfg.ticksPerCycle
        sched := rest }) ∧
    (s.phase = .idle →
      ((b = 0x00#8 ∨ b = 0xFF#8) ∧ payload = [0x09#8, 0x00#8, 0x03#8] ∨
        (b = 0x41#8 ∨ b = 0x42#8) ∧
          payload = [0x00#8, 0x01#8, 0x80#8, 0x80#8, 0x80#8, 0x80#8, 0x00#8, 0x00#8, 0x00#8, 0x00#8]) →
      runSteps (1 + 4 * s.cfg.k + n) s = .next { s with
        rxq := [], txq := txWords payload, isr := 0, isrCnt := 0, osrCnt := 0, cursor := .wrEntry
        phase := .idle, host := .readTick s.timeout .waitForPoll
        now := s.now + 4 * s.cfg.k, tick := s.tick + 4 * s.cfg.k * s.cfg.ticksPerCycle
        sched := rest })
end

