-- ==== Sys2Proof/Laws/Decode.lean ====
section
/-! SUPPORT. The fields of an engine input word: taking a packed word apart, and packing the parts of
a word again (30_encoding.md R128). -/

namespace Sys2Proof

/-- The bits of a packed word: the ignored field below, the flag at bit 23, the payload above. -/
theorem packTxw_getLsbD (d : Byte) (l : BitVec 1) (g : BitVec 23) (i : Nat) :
    (packTxw d l g).getLsbD i =
      if i < 23 then g.getLsbD i else if i = 23 then l.getLsbD 0 else d.getLsbD (i - 24) := by
  have h1 := BitVec.getLsbD_append (x := d ++ l) (y := g) (i := i)
  have h2 := BitVec.getLsbD_append (x := d) (y := l) (i := i - 23)
  unfold packTxw
  refine h1.trans ?_
  rw [h2]
  by_cases h : i < 23
  · simp [h]
  · by_cases h' : i = 23
    · simp [h']
    · have h'' : ¬ i - 23 < 1 := by omega
      have h3 : i - 23 - 1 = i - 24 := by omega
      simp [h, h', h'', h3]

@[simp] theorem txwData_packTxw (d : Byte) (l : BitVec 1) (g : BitVec 23) :
    txwData (packTxw d l g) = d := by
  apply BitVec.eq_of_getLsbD_eq
  intro i hi
  rw [txwData, BitVec.getLsbD_extractLsb', packTxw_getLsbD]
  have h1 : ¬ 24 + i < 23 := by omega
  have h2 : ¬ 24 + i = 23 := by omega
  have h3 : 24 + i - 24 = i := by omega
  simp [h1, h2, h3, hi]

@[simp] theorem txwIgnored_packTxw (d : Byte) (l : BitVec 1) (g : BitVec 23) :
    txwIgnored (packTxw d l g) = g := by
  apply BitVec.eq_of_getLsbD_eq
  intro i hi
  rw [txwIgnored, BitVec.getLsbD_extractLsb', packTxw_getLsbD]
  simp [hi]

@[simp] theorem txwLastFlag_packTxw (d : Byte) (l : BitVec 1) (g : BitVec 23) :
    txwLastFlag (packTxw d l g) = l.getLsbD 0 := by
  rw [txwLastFlag, packTxw_getLsbD]
  simp

/-- A word is its payload, its flag and its ignored bits. -/
theorem packTxw_fields (w : Word) (l : BitVec 1) (h : l.getLsbD 0 = w.getLsbD 23) :
    packTxw (txwData w) l (txwIgnored w) = w := by
  apply BitVec.eq_of_getLsbD_eq
  intro i hi
  rw [packTxw_getLsbD, txwData, txwIgnored, BitVec.getLsbD_extractLsb', BitVec.getLsbD_extractLsb']
  by_cases h1 : i < 23
  · simp [h1]
  · by_cases h2 : i = 23
    · subst h2; simpa using h
    · have h3 : i - 24 < 8 := by omega
      have h4 : 24 + (i - 24) = i := by omega
      simp [h1, h2, h3, h4]

end Sys2Proof
end

