-- ==== Sys2Proof/Laws/Flags.lean ====
section
/-! SUPPORT. What each condition of Machine/Flags.lean says, once. -/

namespace Sys2Proof.Machine

theorem started_iff {s : State} : started s = true ↔ s.cursor ≠ .unstarted := by simp [started]

theorem rxFull_iff {s : State} : rxFull s = true ↔ s.cfg.qdepth ≤ s.rxq.length := by simp [rxFull]

theorem txFull_iff {s : State} : txFull s = true ↔ s.cfg.qdepth ≤ s.txq.length := by simp [txFull]

theorem windowExhausted_iff {s : State} : windowExhausted s = true ↔ s.osrCnt = 0 := by
  simp [windowExhausted]

theorem driving_iff {s : State} :
    driving s = true ↔ s.cursor ≠ .unstarted ∧ s.dir = .output := by
  simp [driving, started]

theorem consoleNow_of_script {s : State} {d : Drive} {rest : List Drive}
    (h : s.console = d :: rest) : consoleNow s = d := by
  simp [consoleNow, h]

theorem consoleNow_of_hold {s : State} {d : Drive} (h : s.console = [])
    (hr : s.consoleRest = .hold d) : consoleNow s = d := by
  simp [consoleNow, restDrive, h, hr]

theorem consoleNow_of_free {s : State} {n : Nat} (h : s.console = [])
    (hr : s.consoleRest = .free n) :
    consoleNow s = if Config.consoleDrivesLow n s.now then .driveLow else .release := by
  simp [consoleNow, restDrive, h, hr]

/-- A script that is low throughout, and held low after it, is low now. -/
theorem consoleNow_of_endless_low {s : State} (h : ∀ d ∈ s.console, d = Drive.driveLow)
    (hr : s.consoleRest = .hold .driveLow) : consoleNow s = .driveLow := by
  rcases hc : s.console with _ | ⟨d, rest⟩
  · exact consoleNow_of_hold hc hr
  · rw [consoleNow_of_script hc]
    exact h d (by simp [hc])

/-- While the core drives, every reader sees its pin (R84). -/
theorem line_of_driving {s : State} (h : driving s = true) : line s = s.pinOut := by
  simp [line, h]

/-- While the core does not drive, the wire is high unless the console pulls it low (R84). -/
theorem line_of_released {s : State} (h : driving s = false) :
    line s = true ↔ consoleNow s = .release := by
  simp [line, h]

theorem clash_iff {s : State} :
    clash s = true ↔
      s.cursor ≠ .unstarted ∧ s.dir = .output ∧ consoleNow s = .driveLow := by
  simp [clash, driving_iff, and_assoc]

theorem expired_iff {timeout t0 : Nat} {s : State} :
    expired timeout t0 s = true ↔ timeout ≤ s.tick - t0 := decide_eq_true_iff

end Sys2Proof.Machine
end

