-- ==== Sys2Proof/Laws/State.lean ====
section
/-! SUPPORT. What each named operation leaves in each field of the state, by rfl, so that no proof
unfolds a record update. -/

namespace Sys2Proof.Machine

@[simp] theorem pushRxq_cfg (b : Byte) (s : State) : (pushRxq b s).cfg = s.cfg := rfl
@[simp] theorem pushRxq_cursor (b : Byte) (s : State) : (pushRxq b s).cursor = s.cursor := rfl
@[simp] theorem pushRxq_ctr (b : Byte) (s : State) : (pushRxq b s).ctr = s.ctr := rfl
@[simp] theorem pushRxq_dir (b : Byte) (s : State) : (pushRxq b s).dir = s.dir := rfl
@[simp] theorem pushRxq_pinOut (b : Byte) (s : State) : (pushRxq b s).pinOut = s.pinOut := rfl
@[simp] theorem pushRxq_isr (b : Byte) (s : State) : (pushRxq b s).isr = s.isr := rfl
@[simp] theorem pushRxq_isrCnt (b : Byte) (s : State) : (pushRxq b s).isrCnt = s.isrCnt := rfl
@[simp] theorem pushRxq_osr (b : Byte) (s : State) : (pushRxq b s).osr = s.osr := rfl
@[simp] theorem pushRxq_osrCnt (b : Byte) (s : State) : (pushRxq b s).osrCnt = s.osrCnt := rfl
@[simp] theorem pushRxq_xbit (b : Byte) (s : State) : (pushRxq b s).xbit = s.xbit := rfl
@[simp] theorem pushRxq_rxq (b : Byte) (s : State) : (pushRxq b s).rxq = s.rxq ++ [b] := rfl
@[simp] theorem pushRxq_txq (b : Byte) (s : State) : (pushRxq b s).txq = s.txq := rfl
@[simp] theorem pushRxq_rxOverrun (b : Byte) (s : State) : (pushRxq b s).rxOverrun = s.rxOverrun := rfl
@[simp] theorem pushRxq_contention (b : Byte) (s : State) : (pushRxq b s).contention = s.contention := rfl
@[simp] theorem pushRxq_phase (b : Byte) (s : State) : (pushRxq b s).phase = s.phase := rfl
@[simp] theorem pushRxq_timeout (b : Byte) (s : State) : (pushRxq b s).timeout = s.timeout := rfl
@[simp] theorem pushRxq_owned (b : Byte) (s : State) : (pushRxq b s).owned = s.owned := rfl
@[simp] theorem pushRxq_host (b : Byte) (s : State) : (pushRxq b s).host = s.host := rfl
@[simp] theorem pushRxq_snapshot (b : Byte) (s : State) : (pushRxq b s).snapshot = s.snapshot := rfl
@[simp] theorem pushRxq_now (b : Byte) (s : State) : (pushRxq b s).now = s.now := rfl
@[simp] theorem pushRxq_console (b : Byte) (s : State) : (pushRxq b s).console = s.console := rfl
@[simp] theorem pushRxq_consoleRest (b : Byte) (s : State) : (pushRxq b s).consoleRest = s.consoleRest := rfl
@[simp] theorem pushRxq_tick (b : Byte) (s : State) : (pushRxq b s).tick = s.tick := rfl
@[simp] theorem pushRxq_calls (b : Byte) (s : State) : (pushRxq b s).calls = s.calls := rfl
@[simp] theorem pushRxq_sched (b : Byte) (s : State) : (pushRxq b s).sched = s.sched := rfl
@[simp] theorem pushRxq_result (b : Byte) (s : State) : (pushRxq b s).result = s.result := rfl

@[simp] theorem dropRxq_cfg (s : State) : (dropRxq s).cfg = s.cfg := rfl
@[simp] theorem dropRxq_cursor (s : State) : (dropRxq s).cursor = s.cursor := rfl
@[simp] theorem dropRxq_ctr (s : State) : (dropRxq s).ctr = s.ctr := rfl
@[simp] theorem dropRxq_dir (s : State) : (dropRxq s).dir = s.dir := rfl
@[simp] theorem dropRxq_pinOut (s : State) : (dropRxq s).pinOut = s.pinOut := rfl
@[simp] theorem dropRxq_isr (s : State) : (dropRxq s).isr = s.isr := rfl
@[simp] theorem dropRxq_isrCnt (s : State) : (dropRxq s).isrCnt = s.isrCnt := rfl
@[simp] theorem dropRxq_osr (s : State) : (dropRxq s).osr = s.osr := rfl
@[simp] theorem dropRxq_osrCnt (s : State) : (dropRxq s).osrCnt = s.osrCnt := rfl
@[simp] theorem dropRxq_xbit (s : State) : (dropRxq s).xbit = s.xbit := rfl
@[simp] theorem dropRxq_rxq (s : State) : (dropRxq s).rxq = s.rxq.tail := rfl
@[simp] theorem dropRxq_txq (s : State) : (dropRxq s).txq = s.txq := rfl
@[simp] theorem dropRxq_rxOverrun (s : State) : (dropRxq s).rxOverrun = s.rxOverrun := rfl
@[simp] theorem dropRxq_contention (s : State) : (dropRxq s).contention = s.contention := rfl
@[simp] theorem dropRxq_phase (s : State) : (dropRxq s).phase = s.phase := rfl
@[simp] theorem dropRxq_timeout (s : State) : (dropRxq s).timeout = s.timeout := rfl
@[simp] theorem dropRxq_owned (s : State) : (dropRxq s).owned = s.owned := rfl
@[simp] theorem dropRxq_host (s : State) : (dropRxq s).host = s.host := rfl
@[simp] theorem dropRxq_snapshot (s : State) : (dropRxq s).snapshot = s.snapshot := rfl
@[simp] theorem dropRxq_now (s : State) : (dropRxq s).now = s.now := rfl
@[simp] theorem dropRxq_console (s : State) : (dropRxq s).console = s.console := rfl
@[simp] theorem dropRxq_consoleRest (s : State) : (dropRxq s).consoleRest = s.consoleRest := rfl
@[simp] theorem dropRxq_tick (s : State) : (dropRxq s).tick = s.tick := rfl
@[simp] theorem dropRxq_calls (s : State) : (dropRxq s).calls = s.calls := rfl
@[simp] theorem dropRxq_sched (s : State) : (dropRxq s).sched = s.sched := rfl
@[simp] theorem dropRxq_result (s : State) : (dropRxq s).result = s.result := rfl

@[simp] theorem pushTxq_cfg (w : Word) (s : State) : (pushTxq w s).cfg = s.cfg := rfl
@[simp] theorem pushTxq_cursor (w : Word) (s : State) : (pushTxq w s).cursor = s.cursor := rfl
@[simp] theorem pushTxq_ctr (w : Word) (s : State) : (pushTxq w s).ctr = s.ctr := rfl
@[simp] theorem pushTxq_dir (w : Word) (s : State) : (pushTxq w s).dir = s.dir := rfl
@[simp] theorem pushTxq_pinOut (w : Word) (s : State) : (pushTxq w s).pinOut = s.pinOut := rfl
@[simp] theorem pushTxq_isr (w : Word) (s : State) : (pushTxq w s).isr = s.isr := rfl
@[simp] theorem pushTxq_isrCnt (w : Word) (s : State) : (pushTxq w s).isrCnt = s.isrCnt := rfl
@[simp] theorem pushTxq_osr (w : Word) (s : State) : (pushTxq w s).osr = s.osr := rfl
@[simp] theorem pushTxq_osrCnt (w : Word) (s : State) : (pushTxq w s).osrCnt = s.osrCnt := rfl
@[simp] theorem pushTxq_xbit (w : Word) (s : State) : (pushTxq w s).xbit = s.xbit := rfl
@[simp] theorem pushTxq_rxq (w : Word) (s : State) : (pushTxq w s).rxq = s.rxq := rfl
@[simp] theorem pushTxq_txq (w : Word) (s : State) : (pushTxq w s).txq = s.txq ++ [w] := rfl
@[simp] theorem pushTxq_rxOverrun (w : Word) (s : State) : (pushTxq w s).rxOverrun = s.rxOverrun := rfl
@[simp] theorem pushTxq_contention (w : Word) (s : State) : (pushTxq w s).contention = s.contention := rfl
@[simp] theorem pushTxq_phase (w : Word) (s : State) : (pushTxq w s).phase = s.phase := rfl
@[simp] theorem pushTxq_timeout (w : Word) (s : State) : (pushTxq w s).timeout = s.timeout := rfl
@[simp] theorem pushTxq_owned (w : Word) (s : State) : (pushTxq w s).owned = s.owned := rfl
@[simp] theorem pushTxq_host (w : Word) (s : State) : (pushTxq w s).host = s.host := rfl
@[simp] theorem pushTxq_snapshot (w : Word) (s : State) : (pushTxq w s).snapshot = s.snapshot := rfl
@[simp] theorem pushTxq_now (w : Word) (s : State) : (pushTxq w s).now = s.now := rfl
@[simp] theorem pushTxq_console (w : Word) (s : State) : (pushTxq w s).console = s.console := rfl
@[simp] theorem pushTxq_consoleRest (w : Word) (s : State) : (pushTxq w s).consoleRest = s.consoleRest := rfl
@[simp] theorem pushTxq_tick (w : Word) (s : State) : (pushTxq w s).tick = s.tick := rfl
@[simp] theorem pushTxq_calls (w : Word) (s : State) : (pushTxq w s).calls = s.calls := rfl
@[simp] theorem pushTxq_sched (w : Word) (s : State) : (pushTxq w s).sched = s.sched := rfl
@[simp] theorem pushTxq_result (w : Word) (s : State) : (pushTxq w s).result = s.result := rfl

@[simp] theorem dropTxq_cfg (s : State) : (dropTxq s).cfg = s.cfg := rfl
@[simp] theorem dropTxq_cursor (s : State) : (dropTxq s).cursor = s.cursor := rfl
@[simp] theorem dropTxq_ctr (s : State) : (dropTxq s).ctr = s.ctr := rfl
@[simp] theorem dropTxq_dir (s : State) : (dropTxq s).dir = s.dir := rfl
@[simp] theorem dropTxq_pinOut (s : State) : (dropTxq s).pinOut = s.pinOut := rfl
@[simp] theorem dropTxq_isr (s : State) : (dropTxq s).isr = s.isr := rfl
@[simp] theorem dropTxq_isrCnt (s : State) : (dropTxq s).isrCnt = s.isrCnt := rfl
@[simp] theorem dropTxq_osr (s : State) : (dropTxq s).osr = s.osr := rfl
@[simp] theorem dropTxq_osrCnt (s : State) : (dropTxq s).osrCnt = s.osrCnt := rfl
@[simp] theorem dropTxq_xbit (s : State) : (dropTxq s).xbit = s.xbit := rfl
@[simp] theorem dropTxq_rxq (s : State) : (dropTxq s).rxq = s.rxq := rfl
@[simp] theorem dropTxq_txq (s : State) : (dropTxq s).txq = s.txq.tail := rfl
@[simp] theorem dropTxq_rxOverrun (s : State) : (dropTxq s).rxOverrun = s.rxOverrun := rfl
@[simp] theorem dropTxq_contention (s : State) : (dropTxq s).contention = s.contention := rfl
@[simp] theorem dropTxq_phase (s : State) : (dropTxq s).phase = s.phase := rfl
@[simp] theorem dropTxq_timeout (s : State) : (dropTxq s).timeout = s.timeout := rfl
@[simp] theorem dropTxq_owned (s : State) : (dropTxq s).owned = s.owned := rfl
@[simp] theorem dropTxq_host (s : State) : (dropTxq s).host = s.host := rfl
@[simp] theorem dropTxq_snapshot (s : State) : (dropTxq s).snapshot = s.snapshot := rfl
@[simp] theorem dropTxq_now (s : State) : (dropTxq s).now = s.now := rfl
@[simp] theorem dropTxq_console (s : State) : (dropTxq s).console = s.console := rfl
@[simp] theorem dropTxq_consoleRest (s : State) : (dropTxq s).consoleRest = s.consoleRest := rfl
@[simp] theorem dropTxq_tick (s : State) : (dropTxq s).tick = s.tick := rfl
@[simp] theorem dropTxq_calls (s : State) : (dropTxq s).calls = s.calls := rfl
@[simp] theorem dropTxq_sched (s : State) : (dropTxq s).sched = s.sched := rfl
@[simp] theorem dropTxq_result (s : State) : (dropTxq s).result = s.result := rfl

@[simp] theorem restartAt_cfg (c : Cursor) (s : State) : (restartAt c s).cfg = s.cfg := rfl
@[simp] theorem restartAt_cursor (c : Cursor) (s : State) : (restartAt c s).cursor = c := rfl
@[simp] theorem restartAt_ctr (c : Cursor) (s : State) : (restartAt c s).ctr = 0 := rfl
@[simp] theorem restartAt_dir (c : Cursor) (s : State) : (restartAt c s).dir = s.dir := rfl
@[simp] theorem restartAt_pinOut (c : Cursor) (s : State) : (restartAt c s).pinOut = s.pinOut := rfl
@[simp] theorem restartAt_isr (c : Cursor) (s : State) : (restartAt c s).isr = 0 := rfl
@[simp] theorem restartAt_isrCnt (c : Cursor) (s : State) : (restartAt c s).isrCnt = 0 := rfl
@[simp] theorem restartAt_osr (c : Cursor) (s : State) : (restartAt c s).osr = s.osr := rfl
@[simp] theorem restartAt_osrCnt (c : Cursor) (s : State) : (restartAt c s).osrCnt = 0 := rfl
@[simp] theorem restartAt_xbit (c : Cursor) (s : State) : (restartAt c s).xbit = s.xbit := rfl
@[simp] theorem restartAt_rxq (c : Cursor) (s : State) : (restartAt c s).rxq = [] := rfl
@[simp] theorem restartAt_txq (c : Cursor) (s : State) : (restartAt c s).txq = [] := rfl
@[simp] theorem restartAt_rxOverrun (c : Cursor) (s : State) : (restartAt c s).rxOverrun = s.rxOverrun := rfl
@[simp] theorem restartAt_contention (c : Cursor) (s : State) : (restartAt c s).contention = s.contention := rfl
@[simp] theorem restartAt_phase (c : Cursor) (s : State) : (restartAt c s).phase = s.phase := rfl
@[simp] theorem restartAt_timeout (c : Cursor) (s : State) : (restartAt c s).timeout = s.timeout := rfl
@[simp] theorem restartAt_owned (c : Cursor) (s : State) : (restartAt c s).owned = s.owned := rfl
@[simp] theorem restartAt_host (c : Cursor) (s : State) : (restartAt c s).host = s.host := rfl
@[simp] theorem restartAt_snapshot (c : Cursor) (s : State) : (restartAt c s).snapshot = s.snapshot := rfl
@[simp] theorem restartAt_now (c : Cursor) (s : State) : (restartAt c s).now = s.now := rfl
@[simp] theorem restartAt_console (c : Cursor) (s : State) : (restartAt c s).console = s.console := rfl
@[simp] theorem restartAt_consoleRest (c : Cursor) (s : State) : (restartAt c s).consoleRest = s.consoleRest := rfl
@[simp] theorem restartAt_tick (c : Cursor) (s : State) : (restartAt c s).tick = s.tick := rfl
@[simp] theorem restartAt_calls (c : Cursor) (s : State) : (restartAt c s).calls = s.calls := rfl
@[simp] theorem restartAt_sched (c : Cursor) (s : State) : (restartAt c s).sched = s.sched := rfl
@[simp] theorem restartAt_result (c : Cursor) (s : State) : (restartAt c s).result = s.result := rfl

@[simp] theorem goTo_cfg (c : Cursor) (s : State) : (goTo c s).cfg = s.cfg := rfl
@[simp] theorem goTo_cursor (c : Cursor) (s : State) : (goTo c s).cursor = c := rfl
@[simp] theorem goTo_ctr (c : Cursor) (s : State) : (goTo c s).ctr = s.ctr := rfl
@[simp] theorem goTo_dir (c : Cursor) (s : State) : (goTo c s).dir = s.dir := rfl
@[simp] theorem goTo_pinOut (c : Cursor) (s : State) : (goTo c s).pinOut = s.pinOut := rfl
@[simp] theorem goTo_isr (c : Cursor) (s : State) : (goTo c s).isr = s.isr := rfl
@[simp] theorem goTo_isrCnt (c : Cursor) (s : State) : (goTo c s).isrCnt = s.isrCnt := rfl
@[simp] theorem goTo_osr (c : Cursor) (s : State) : (goTo c s).osr = s.osr := rfl
@[simp] theorem goTo_osrCnt (c : Cursor) (s : State) : (goTo c s).osrCnt = s.osrCnt := rfl
@[simp] theorem goTo_xbit (c : Cursor) (s : State) : (goTo c s).xbit = s.xbit := rfl
@[simp] theorem goTo_rxq (c : Cursor) (s : State) : (goTo c s).rxq = s.rxq := rfl
@[simp] theorem goTo_txq (c : Cursor) (s : State) : (goTo c s).txq = s.txq := rfl
@[simp] theorem goTo_rxOverrun (c : Cursor) (s : State) : (goTo c s).rxOverrun = s.rxOverrun := rfl
@[simp] theorem goTo_contention (c : Cursor) (s : State) : (goTo c s).contention = s.contention := rfl
@[simp] theorem goTo_phase (c : Cursor) (s : State) : (goTo c s).phase = s.phase := rfl
@[simp] theorem goTo_timeout (c : Cursor) (s : State) : (goTo c s).timeout = s.timeout := rfl
@[simp] theorem goTo_owned (c : Cursor) (s : State) : (goTo c s).owned = s.owned := rfl
@[simp] theorem goTo_host (c : Cursor) (s : State) : (goTo c s).host = s.host := rfl
@[simp] theorem goTo_snapshot (c : Cursor) (s : State) : (goTo c s).snapshot = s.snapshot := rfl
@[simp] theorem goTo_now (c : Cursor) (s : State) : (goTo c s).now = s.now := rfl
@[simp] theorem goTo_console (c : Cursor) (s : State) : (goTo c s).console = s.console := rfl
@[simp] theorem goTo_consoleRest (c : Cursor) (s : State) : (goTo c s).consoleRest = s.consoleRest := rfl
@[simp] theorem goTo_tick (c : Cursor) (s : State) : (goTo c s).tick = s.tick := rfl
@[simp] theorem goTo_calls (c : Cursor) (s : State) : (goTo c s).calls = s.calls := rfl
@[simp] theorem goTo_sched (c : Cursor) (s : State) : (goTo c s).sched = s.sched := rfl
@[simp] theorem goTo_result (c : Cursor) (s : State) : (goTo c s).result = s.result := rfl

@[simp] theorem delayThen_cfg (n : Nat) (c : Cursor) (s : State) : (delayThen n c s).cfg = s.cfg := rfl
@[simp] theorem delayThen_cursor (n : Nat) (c : Cursor) (s : State) : (delayThen n c s).cursor = c := rfl
@[simp] theorem delayThen_ctr (n : Nat) (c : Cursor) (s : State) : (delayThen n c s).ctr = n := rfl
@[simp] theorem delayThen_dir (n : Nat) (c : Cursor) (s : State) : (delayThen n c s).dir = s.dir := rfl
@[simp] theorem delayThen_pinOut (n : Nat) (c : Cursor) (s : State) : (delayThen n c s).pinOut = s.pinOut := rfl
@[simp] theorem delayThen_isr (n : Nat) (c : Cursor) (s : State) : (delayThen n c s).isr = s.isr := rfl
@[simp] theorem delayThen_isrCnt (n : Nat) (c : Cursor) (s : State) : (delayThen n c s).isrCnt = s.isrCnt := rfl
@[simp] theorem delayThen_osr (n : Nat) (c : Cursor) (s : State) : (delayThen n c s).osr = s.osr := rfl
@[simp] theorem delayThen_osrCnt (n : Nat) (c : Cursor) (s : State) : (delayThen n c s).osrCnt = s.osrCnt := rfl
@[simp] theorem delayThen_xbit (n : Nat) (c : Cursor) (s : State) : (delayThen n c s).xbit = s.xbit := rfl
@[simp] theorem delayThen_rxq (n : Nat) (c : Cursor) (s : State) : (delayThen n c s).rxq = s.rxq := rfl
@[simp] theorem delayThen_txq (n : Nat) (c : Cursor) (s : State) : (delayThen n c s).txq = s.txq := rfl
@[simp] theorem delayThen_rxOverrun (n : Nat) (c : Cursor) (s : State) : (delayThen n c s).rxOverrun = s.rxOverrun := rfl
@[simp] theorem delayThen_contention (n : Nat) (c : Cursor) (s : State) : (delayThen n c s).contention = s.contention := rfl
@[simp] theorem delayThen_phase (n : Nat) (c : Cursor) (s : State) : (delayThen n c s).phase = s.phase := rfl
@[simp] theorem delayThen_timeout (n : Nat) (c : Cursor) (s : State) : (delayThen n c s).timeout = s.timeout := rfl
@[simp] theorem delayThen_owned (n : Nat) (c : Cursor) (s : State) : (delayThen n c s).owned = s.owned := rfl
@[simp] theorem delayThen_host (n : Nat) (c : Cursor) (s : State) : (delayThen n c s).host = s.host := rfl
@[simp] theorem delayThen_snapshot (n : Nat) (c : Cursor) (s : State) : (delayThen n c s).snapshot = s.snapshot := rfl
@[simp] theorem delayThen_now (n : Nat) (c : Cursor) (s : State) : (delayThen n c s).now = s.now := rfl
@[simp] theorem delayThen_console (n : Nat) (c : Cursor) (s : State) : (delayThen n c s).console = s.console := rfl
@[simp] theorem delayThen_consoleRest (n : Nat) (c : Cursor) (s : State) : (delayThen n c s).consoleRest = s.consoleRest := rfl
@[simp] theorem delayThen_tick (n : Nat) (c : Cursor) (s : State) : (delayThen n c s).tick = s.tick := rfl
@[simp] theorem delayThen_calls (n : Nat) (c : Cursor) (s : State) : (delayThen n c s).calls = s.calls := rfl
@[simp] theorem delayThen_sched (n : Nat) (c : Cursor) (s : State) : (delayThen n c s).sched = s.sched := rfl
@[simp] theorem delayThen_result (n : Nat) (c : Cursor) (s : State) : (delayThen n c s).result = s.result := rfl

@[simp] theorem setDir_cfg (d : Direction) (c : Cursor) (s : State) : (setDir d c s).cfg = s.cfg := rfl
@[simp] theorem setDir_cursor (d : Direction) (c : Cursor) (s : State) : (setDir d c s).cursor = c := rfl
@[simp] theorem setDir_ctr (d : Direction) (c : Cursor) (s : State) : (setDir d c s).ctr = s.ctr := rfl
@[simp] theorem setDir_dir (d : Direction) (c : Cursor) (s : State) : (setDir d c s).dir = d := rfl
@[simp] theorem setDir_pinOut (d : Direction) (c : Cursor) (s : State) : (setDir d c s).pinOut = s.pinOut := rfl
@[simp] theorem setDir_isr (d : Direction) (c : Cursor) (s : State) : (setDir d c s).isr = s.isr := rfl
@[simp] theorem setDir_isrCnt (d : Direction) (c : Cursor) (s : State) : (setDir d c s).isrCnt = s.isrCnt := rfl
@[simp] theorem setDir_osr (d : Direction) (c : Cursor) (s : State) : (setDir d c s).osr = s.osr := rfl
@[simp] theorem setDir_osrCnt (d : Direction) (c : Cursor) (s : State) : (setDir d c s).osrCnt = s.osrCnt := rfl
@[simp] theorem setDir_xbit (d : Direction) (c : Cursor) (s : State) : (setDir d c s).xbit = s.xbit := rfl
@[simp] theorem setDir_rxq (d : Direction) (c : Cursor) (s : State) : (setDir d c s).rxq = s.rxq := rfl
@[simp] theorem setDir_txq (d : Direction) (c : Cursor) (s : State) : (setDir d c s).txq = s.txq := rfl
@[simp] theorem setDir_rxOverrun (d : Direction) (c : Cursor) (s : State) : (setDir d c s).rxOverrun = s.rxOverrun := rfl
@[simp] theorem setDir_contention (d : Direction) (c : Cursor) (s : State) : (setDir d c s).contention = s.contention := rfl
@[simp] theorem setDir_phase (d : Direction) (c : Cursor) (s : State) : (setDir d c s).phase = s.phase := rfl
@[simp] theorem setDir_timeout (d : Direction) (c : Cursor) (s : State) : (setDir d c s).timeout = s.timeout := rfl
@[simp] theorem setDir_owned (d : Direction) (c : Cursor) (s : State) : (setDir d c s).owned = s.owned := rfl
@[simp] theorem setDir_host (d : Direction) (c : Cursor) (s : State) : (setDir d c s).host = s.host := rfl
@[simp] theorem setDir_snapshot (d : Direction) (c : Cursor) (s : State) : (setDir d c s).snapshot = s.snapshot := rfl
@[simp] theorem setDir_now (d : Direction) (c : Cursor) (s : State) : (setDir d c s).now = s.now := rfl
@[simp] theorem setDir_console (d : Direction) (c : Cursor) (s : State) : (setDir d c s).console = s.console := rfl
@[simp] theorem setDir_consoleRest (d : Direction) (c : Cursor) (s : State) : (setDir d c s).consoleRest = s.consoleRest := rfl
@[simp] theorem setDir_tick (d : Direction) (c : Cursor) (s : State) : (setDir d c s).tick = s.tick := rfl
@[simp] theorem setDir_calls (d : Direction) (c : Cursor) (s : State) : (setDir d c s).calls = s.calls := rfl
@[simp] theorem setDir_sched (d : Direction) (c : Cursor) (s : State) : (setDir d c s).sched = s.sched := rfl
@[simp] theorem setDir_result (d : Direction) (c : Cursor) (s : State) : (setDir d c s).result = s.result := rfl

@[simp] theorem drivePin_cfg (v : Bool) (s : State) : (drivePin v s).cfg = s.cfg := rfl
@[simp] theorem drivePin_cursor (v : Bool) (s : State) : (drivePin v s).cursor = s.cursor := rfl
@[simp] theorem drivePin_ctr (v : Bool) (s : State) : (drivePin v s).ctr = s.ctr := rfl
@[simp] theorem drivePin_dir (v : Bool) (s : State) : (drivePin v s).dir = s.dir := rfl
@[simp] theorem drivePin_pinOut (v : Bool) (s : State) : (drivePin v s).pinOut = v := rfl
@[simp] theorem drivePin_isr (v : Bool) (s : State) : (drivePin v s).isr = s.isr := rfl
@[simp] theorem drivePin_isrCnt (v : Bool) (s : State) : (drivePin v s).isrCnt = s.isrCnt := rfl
@[simp] theorem drivePin_osr (v : Bool) (s : State) : (drivePin v s).osr = s.osr := rfl
@[simp] theorem drivePin_osrCnt (v : Bool) (s : State) : (drivePin v s).osrCnt = s.osrCnt := rfl
@[simp] theorem drivePin_xbit (v : Bool) (s : State) : (drivePin v s).xbit = s.xbit := rfl
@[simp] theorem drivePin_rxq (v : Bool) (s : State) : (drivePin v s).rxq = s.rxq := rfl
@[simp] theorem drivePin_txq (v : Bool) (s : State) : (drivePin v s).txq = s.txq := rfl
@[simp] theorem drivePin_rxOverrun (v : Bool) (s : State) : (drivePin v s).rxOverrun = s.rxOverrun := rfl
@[simp] theorem drivePin_contention (v : Bool) (s : State) : (drivePin v s).contention = s.contention := rfl
@[simp] theorem drivePin_phase (v : Bool) (s : State) : (drivePin v s).phase = s.phase := rfl
@[simp] theorem drivePin_timeout (v : Bool) (s : State) : (drivePin v s).timeout = s.timeout := rfl
@[simp] theorem drivePin_owned (v : Bool) (s : State) : (drivePin v s).owned = s.owned := rfl
@[simp] theorem drivePin_host (v : Bool) (s : State) : (drivePin v s).host = s.host := rfl
@[simp] theorem drivePin_snapshot (v : Bool) (s : State) : (drivePin v s).snapshot = s.snapshot := rfl
@[simp] theorem drivePin_now (v : Bool) (s : State) : (drivePin v s).now = s.now := rfl
@[simp] theorem drivePin_console (v : Bool) (s : State) : (drivePin v s).console = s.console := rfl
@[simp] theorem drivePin_consoleRest (v : Bool) (s : State) : (drivePin v s).consoleRest = s.consoleRest := rfl
@[simp] theorem drivePin_tick (v : Bool) (s : State) : (drivePin v s).tick = s.tick := rfl
@[simp] theorem drivePin_calls (v : Bool) (s : State) : (drivePin v s).calls = s.calls := rfl
@[simp] theorem drivePin_sched (v : Bool) (s : State) : (drivePin v s).sched = s.sched := rfl
@[simp] theorem drivePin_result (v : Bool) (s : State) : (drivePin v s).result = s.result := rfl

@[simp] theorem shiftIn_cfg (v : Bool) (s : State) : (shiftIn v s).cfg = s.cfg := rfl
@[simp] theorem shiftIn_cursor (v : Bool) (s : State) : (shiftIn v s).cursor = s.cursor := rfl
@[simp] theorem shiftIn_ctr (v : Bool) (s : State) : (shiftIn v s).ctr = s.ctr := rfl
@[simp] theorem shiftIn_dir (v : Bool) (s : State) : (shiftIn v s).dir = s.dir := rfl
@[simp] theorem shiftIn_pinOut (v : Bool) (s : State) : (shiftIn v s).pinOut = s.pinOut := rfl
@[simp] theorem shiftIn_isr (v : Bool) (s : State) : (shiftIn v s).isr = (s.isr <<< 1) ||| bit v := rfl
@[simp] theorem shiftIn_isrCnt (v : Bool) (s : State) : (shiftIn v s).isrCnt = s.isrCnt + 1 := rfl
@[simp] theorem shiftIn_osr (v : Bool) (s : State) : (shiftIn v s).osr = s.osr := rfl
@[simp] theorem shiftIn_osrCnt (v : Bool) (s : State) : (shiftIn v s).osrCnt = s.osrCnt := rfl
@[simp] theorem shiftIn_xbit (v : Bool) (s : State) : (shiftIn v s).xbit = s.xbit := rfl
@[simp] theorem shiftIn_rxq (v : Bool) (s : State) : (shiftIn v s).rxq = s.rxq := rfl
@[simp] theorem shiftIn_txq (v : Bool) (s : State) : (shiftIn v s).txq = s.txq := rfl
@[simp] theorem shiftIn_rxOverrun (v : Bool) (s : State) : (shiftIn v s).rxOverrun = s.rxOverrun := rfl
@[simp] theorem shiftIn_contention (v : Bool) (s : State) : (shiftIn v s).contention = s.contention := rfl
@[simp] theorem shiftIn_phase (v : Bool) (s : State) : (shiftIn v s).phase = s.phase := rfl
@[simp] theorem shiftIn_timeout (v : Bool) (s : State) : (shiftIn v s).timeout = s.timeout := rfl
@[simp] theorem shiftIn_owned (v : Bool) (s : State) : (shiftIn v s).owned = s.owned := rfl
@[simp] theorem shiftIn_host (v : Bool) (s : State) : (shiftIn v s).host = s.host := rfl
@[simp] theorem shiftIn_snapshot (v : Bool) (s : State) : (shiftIn v s).snapshot = s.snapshot := rfl
@[simp] theorem shiftIn_now (v : Bool) (s : State) : (shiftIn v s).now = s.now := rfl
@[simp] theorem shiftIn_console (v : Bool) (s : State) : (shiftIn v s).console = s.console := rfl
@[simp] theorem shiftIn_consoleRest (v : Bool) (s : State) : (shiftIn v s).consoleRest = s.consoleRest := rfl
@[simp] theorem shiftIn_tick (v : Bool) (s : State) : (shiftIn v s).tick = s.tick := rfl
@[simp] theorem shiftIn_calls (v : Bool) (s : State) : (shiftIn v s).calls = s.calls := rfl
@[simp] theorem shiftIn_sched (v : Bool) (s : State) : (shiftIn v s).sched = s.sched := rfl
@[simp] theorem shiftIn_result (v : Bool) (s : State) : (shiftIn v s).result = s.result := rfl

@[simp] theorem deliver_cfg (s : State) : (deliver s).cfg = s.cfg := rfl
@[simp] theorem deliver_cursor (s : State) : (deliver s).cursor = .rdWaitHigh := rfl
@[simp] theorem deliver_ctr (s : State) : (deliver s).ctr = s.ctr := rfl
@[simp] theorem deliver_dir (s : State) : (deliver s).dir = s.dir := rfl
@[simp] theorem deliver_pinOut (s : State) : (deliver s).pinOut = s.pinOut := rfl
@[simp] theorem deliver_isr (s : State) : (deliver s).isr = 0 := rfl
@[simp] theorem deliver_isrCnt (s : State) : (deliver s).isrCnt = 0 := rfl
@[simp] theorem deliver_osr (s : State) : (deliver s).osr = s.osr := rfl
@[simp] theorem deliver_osrCnt (s : State) : (deliver s).osrCnt = s.osrCnt := rfl
@[simp] theorem deliver_xbit (s : State) : (deliver s).xbit = s.xbit := rfl
@[simp] theorem deliver_rxq (s : State) : (deliver s).rxq = s.rxq ++ [s.isr] := rfl
@[simp] theorem deliver_txq (s : State) : (deliver s).txq = s.txq := rfl
@[simp] theorem deliver_rxOverrun (s : State) : (deliver s).rxOverrun = s.rxOverrun := rfl
@[simp] theorem deliver_contention (s : State) : (deliver s).contention = s.contention := rfl
@[simp] theorem deliver_phase (s : State) : (deliver s).phase = s.phase := rfl
@[simp] theorem deliver_timeout (s : State) : (deliver s).timeout = s.timeout := rfl
@[simp] theorem deliver_owned (s : State) : (deliver s).owned = s.owned := rfl
@[simp] theorem deliver_host (s : State) : (deliver s).host = s.host := rfl
@[simp] theorem deliver_snapshot (s : State) : (deliver s).snapshot = s.snapshot := rfl
@[simp] theorem deliver_now (s : State) : (deliver s).now = s.now := rfl
@[simp] theorem deliver_console (s : State) : (deliver s).console = s.console := rfl
@[simp] theorem deliver_consoleRest (s : State) : (deliver s).consoleRest = s.consoleRest := rfl
@[simp] theorem deliver_tick (s : State) : (deliver s).tick = s.tick := rfl
@[simp] theorem deliver_calls (s : State) : (deliver s).calls = s.calls := rfl
@[simp] theorem deliver_sched (s : State) : (deliver s).sched = s.sched := rfl
@[simp] theorem deliver_result (s : State) : (deliver s).result = s.result := rfl

@[simp] theorem refill_cfg (w : Word) (c : Cursor) (s : State) : (refill w c s).cfg = s.cfg := rfl
@[simp] theorem refill_cursor (w : Word) (c : Cursor) (s : State) : (refill w c s).cursor = c := rfl
@[simp] theorem refill_ctr (w : Word) (c : Cursor) (s : State) : (refill w c s).ctr = s.ctr := rfl
@[simp] theorem refill_dir (w : Word) (c : Cursor) (s : State) : (refill w c s).dir = s.dir := rfl
@[simp] theorem refill_pinOut (w : Word) (c : Cursor) (s : State) : (refill w c s).pinOut = s.pinOut := rfl
@[simp] theorem refill_isr (w : Word) (c : Cursor) (s : State) : (refill w c s).isr = s.isr := rfl
@[simp] theorem refill_isrCnt (w : Word) (c : Cursor) (s : State) : (refill w c s).isrCnt = s.isrCnt := rfl
@[simp] theorem refill_osr (w : Word) (c : Cursor) (s : State) : (refill w c s).osr = w := rfl
@[simp] theorem refill_osrCnt (w : Word) (c : Cursor) (s : State) : (refill w c s).osrCnt = outWindow := rfl
@[simp] theorem refill_xbit (w : Word) (c : Cursor) (s : State) : (refill w c s).xbit = s.xbit := rfl
@[simp] theorem refill_rxq (w : Word) (c : Cursor) (s : State) : (refill w c s).rxq = s.rxq := rfl
@[simp] theorem refill_txq (w : Word) (c : Cursor) (s : State) : (refill w c s).txq = s.txq.tail := rfl
@[simp] theorem refill_rxOverrun (w : Word) (c : Cursor) (s : State) : (refill w c s).rxOverrun = s.rxOverrun := rfl
@[simp] theorem refill_contention (w : Word) (c : Cursor) (s : State) : (refill w c s).contention = s.contention := rfl
@[simp] theorem refill_phase (w : Word) (c : Cursor) (s : State) : (refill w c s).phase = s.phase := rfl
@[simp] theorem refill_timeout (w : Word) (c : Cursor) (s : State) : (refill w c s).timeout = s.timeout := rfl
@[simp] theorem refill_owned (w : Word) (c : Cursor) (s : State) : (refill w c s).owned = s.owned := rfl
@[simp] theorem refill_host (w : Word) (c : Cursor) (s : State) : (refill w c s).host = s.host := rfl
@[simp] theorem refill_snapshot (w : Word) (c : Cursor) (s : State) : (refill w c s).snapshot = s.snapshot := rfl
@[simp] theorem refill_now (w : Word) (c : Cursor) (s : State) : (refill w c s).now = s.now := rfl
@[simp] theorem refill_console (w : Word) (c : Cursor) (s : State) : (refill w c s).console = s.console := rfl
@[simp] theorem refill_consoleRest (w : Word) (c : Cursor) (s : State) : (refill w c s).consoleRest = s.consoleRest := rfl
@[simp] theorem refill_tick (w : Word) (c : Cursor) (s : State) : (refill w c s).tick = s.tick := rfl
@[simp] theorem refill_calls (w : Word) (c : Cursor) (s : State) : (refill w c s).calls = s.calls := rfl
@[simp] theorem refill_sched (w : Word) (c : Cursor) (s : State) : (refill w c s).sched = s.sched := rfl
@[simp] theorem refill_result (w : Word) (c : Cursor) (s : State) : (refill w c s).result = s.result := rfl

@[simp] theorem shiftOut_cfg (c : Cursor) (s : State) : (shiftOut c s).cfg = s.cfg := rfl
@[simp] theorem shiftOut_cursor (c : Cursor) (s : State) : (shiftOut c s).cursor = c := rfl
@[simp] theorem shiftOut_ctr (c : Cursor) (s : State) : (shiftOut c s).ctr = s.ctr := rfl
@[simp] theorem shiftOut_dir (c : Cursor) (s : State) : (shiftOut c s).dir = s.dir := rfl
@[simp] theorem shiftOut_pinOut (c : Cursor) (s : State) : (shiftOut c s).pinOut = s.pinOut := rfl
@[simp] theorem shiftOut_isr (c : Cursor) (s : State) : (shiftOut c s).isr = s.isr := rfl
@[simp] theorem shiftOut_isrCnt (c : Cursor) (s : State) : (shiftOut c s).isrCnt = s.isrCnt := rfl
@[simp] theorem shiftOut_osr (c : Cursor) (s : State) : (shiftOut c s).osr = s.osr <<< 1 := rfl
@[simp] theorem shiftOut_osrCnt (c : Cursor) (s : State) : (shiftOut c s).osrCnt = s.osrCnt - 1 := rfl
@[simp] theorem shiftOut_xbit (c : Cursor) (s : State) : (shiftOut c s).xbit = s.osr.getLsbD 31 := rfl
@[simp] theorem shiftOut_rxq (c : Cursor) (s : State) : (shiftOut c s).rxq = s.rxq := rfl
@[simp] theorem shiftOut_txq (c : Cursor) (s : State) : (shiftOut c s).txq = s.txq := rfl
@[simp] theorem shiftOut_rxOverrun (c : Cursor) (s : State) : (shiftOut c s).rxOverrun = s.rxOverrun := rfl
@[simp] theorem shiftOut_contention (c : Cursor) (s : State) : (shiftOut c s).contention = s.contention := rfl
@[simp] theorem shiftOut_phase (c : Cursor) (s : State) : (shiftOut c s).phase = s.phase := rfl
@[simp] theorem shiftOut_timeout (c : Cursor) (s : State) : (shiftOut c s).timeout = s.timeout := rfl
@[simp] theorem shiftOut_owned (c : Cursor) (s : State) : (shiftOut c s).owned = s.owned := rfl
@[simp] theorem shiftOut_host (c : Cursor) (s : State) : (shiftOut c s).host = s.host := rfl
@[simp] theorem shiftOut_snapshot (c : Cursor) (s : State) : (shiftOut c s).snapshot = s.snapshot := rfl
@[simp] theorem shiftOut_now (c : Cursor) (s : State) : (shiftOut c s).now = s.now := rfl
@[simp] theorem shiftOut_console (c : Cursor) (s : State) : (shiftOut c s).console = s.console := rfl
@[simp] theorem shiftOut_consoleRest (c : Cursor) (s : State) : (shiftOut c s).consoleRest = s.consoleRest := rfl
@[simp] theorem shiftOut_tick (c : Cursor) (s : State) : (shiftOut c s).tick = s.tick := rfl
@[simp] theorem shiftOut_calls (c : Cursor) (s : State) : (shiftOut c s).calls = s.calls := rfl
@[simp] theorem shiftOut_sched (c : Cursor) (s : State) : (shiftOut c s).sched = s.sched := rfl
@[simp] theorem shiftOut_result (c : Cursor) (s : State) : (shiftOut c s).result = s.result := rfl

@[simp] theorem openDataCell_cfg (v : Bool) (s : State) : (openDataCell v s).cfg = s.cfg := rfl
@[simp] theorem openDataCell_cursor (v : Bool) (s : State) : (openDataCell v s).cursor = .wrVal := rfl
@[simp] theorem openDataCell_ctr (v : Bool) (s : State) : (openDataCell v s).ctr = lenC1 s.cfg - 1 := rfl
@[simp] theorem openDataCell_dir (v : Bool) (s : State) : (openDataCell v s).dir = s.dir := rfl
@[simp] theorem openDataCell_pinOut (v : Bool) (s : State) : (openDataCell v s).pinOut = false := rfl
@[simp] theorem openDataCell_isr (v : Bool) (s : State) : (openDataCell v s).isr = s.isr := rfl
@[simp] theorem openDataCell_isrCnt (v : Bool) (s : State) : (openDataCell v s).isrCnt = s.isrCnt := rfl
@[simp] theorem openDataCell_osr (v : Bool) (s : State) : (openDataCell v s).osr = s.osr := rfl
@[simp] theorem openDataCell_osrCnt (v : Bool) (s : State) : (openDataCell v s).osrCnt = s.osrCnt := rfl
@[simp] theorem openDataCell_xbit (v : Bool) (s : State) : (openDataCell v s).xbit = v := rfl
@[simp] theorem openDataCell_rxq (v : Bool) (s : State) : (openDataCell v s).rxq = s.rxq := rfl
@[simp] theorem openDataCell_txq (v : Bool) (s : State) : (openDataCell v s).txq = s.txq := rfl
@[simp] theorem openDataCell_rxOverrun (v : Bool) (s : State) : (openDataCell v s).rxOverrun = s.rxOverrun := rfl
@[simp] theorem openDataCell_contention (v : Bool) (s : State) : (openDataCell v s).contention = s.contention := rfl
@[simp] theorem openDataCell_phase (v : Bool) (s : State) : (openDataCell v s).phase = s.phase := rfl
@[simp] theorem openDataCell_timeout (v : Bool) (s : State) : (openDataCell v s).timeout = s.timeout := rfl
@[simp] theorem openDataCell_owned (v : Bool) (s : State) : (openDataCell v s).owned = s.owned := rfl
@[simp] theorem openDataCell_host (v : Bool) (s : State) : (openDataCell v s).host = s.host := rfl
@[simp] theorem openDataCell_snapshot (v : Bool) (s : State) : (openDataCell v s).snapshot = s.snapshot := rfl
@[simp] theorem openDataCell_now (v : Bool) (s : State) : (openDataCell v s).now = s.now := rfl
@[simp] theorem openDataCell_console (v : Bool) (s : State) : (openDataCell v s).console = s.console := rfl
@[simp] theorem openDataCell_consoleRest (v : Bool) (s : State) : (openDataCell v s).consoleRest = s.consoleRest := rfl
@[simp] theorem openDataCell_tick (v : Bool) (s : State) : (openDataCell v s).tick = s.tick := rfl
@[simp] theorem openDataCell_calls (v : Bool) (s : State) : (openDataCell v s).calls = s.calls := rfl
@[simp] theorem openDataCell_sched (v : Bool) (s : State) : (openDataCell v s).sched = s.sched := rfl
@[simp] theorem openDataCell_result (v : Bool) (s : State) : (openDataCell v s).result = s.result := rfl

@[simp] theorem openStopCell_cfg (s : State) : (openStopCell s).cfg = s.cfg := rfl
@[simp] theorem openStopCell_cursor (s : State) : (openStopCell s).cursor = .wrStopHigh := rfl
@[simp] theorem openStopCell_ctr (s : State) : (openStopCell s).ctr = lenC1 s.cfg - 1 := rfl
@[simp] theorem openStopCell_dir (s : State) : (openStopCell s).dir = s.dir := rfl
@[simp] theorem openStopCell_pinOut (s : State) : (openStopCell s).pinOut = false := rfl
@[simp] theorem openStopCell_isr (s : State) : (openStopCell s).isr = s.isr := rfl
@[simp] theorem openStopCell_isrCnt (s : State) : (openStopCell s).isrCnt = s.isrCnt := rfl
@[simp] theorem openStopCell_osr (s : State) : (openStopCell s).osr = s.osr := rfl
@[simp] theorem openStopCell_osrCnt (s : State) : (openStopCell s).osrCnt = s.osrCnt := rfl
@[simp] theorem openStopCell_xbit (s : State) : (openStopCell s).xbit = s.xbit := rfl
@[simp] theorem openStopCell_rxq (s : State) : (openStopCell s).rxq = s.rxq := rfl
@[simp] theorem openStopCell_txq (s : State) : (openStopCell s).txq = s.txq := rfl
@[simp] theorem openStopCell_rxOverrun (s : State) : (openStopCell s).rxOverrun = s.rxOverrun := rfl
@[simp] theorem openStopCell_contention (s : State) : (openStopCell s).contention = s.contention := rfl
@[simp] theorem openStopCell_phase (s : State) : (openStopCell s).phase = s.phase := rfl
@[simp] theorem openStopCell_timeout (s : State) : (openStopCell s).timeout = s.timeout := rfl
@[simp] theorem openStopCell_owned (s : State) : (openStopCell s).owned = s.owned := rfl
@[simp] theorem openStopCell_host (s : State) : (openStopCell s).host = s.host := rfl
@[simp] theorem openStopCell_snapshot (s : State) : (openStopCell s).snapshot = s.snapshot := rfl
@[simp] theorem openStopCell_now (s : State) : (openStopCell s).now = s.now := rfl
@[simp] theorem openStopCell_console (s : State) : (openStopCell s).console = s.console := rfl
@[simp] theorem openStopCell_consoleRest (s : State) : (openStopCell s).consoleRest = s.consoleRest := rfl
@[simp] theorem openStopCell_tick (s : State) : (openStopCell s).tick = s.tick := rfl
@[simp] theorem openStopCell_calls (s : State) : (openStopCell s).calls = s.calls := rfl
@[simp] theorem openStopCell_sched (s : State) : (openStopCell s).sched = s.sched := rfl
@[simp] theorem openStopCell_result (s : State) : (openStopCell s).result = s.result := rfl

@[simp] theorem hostAt_cfg (p : HostPos) (s : State) : (hostAt p s).cfg = s.cfg := rfl
@[simp] theorem hostAt_cursor (p : HostPos) (s : State) : (hostAt p s).cursor = s.cursor := rfl
@[simp] theorem hostAt_ctr (p : HostPos) (s : State) : (hostAt p s).ctr = s.ctr := rfl
@[simp] theorem hostAt_dir (p : HostPos) (s : State) : (hostAt p s).dir = s.dir := rfl
@[simp] theorem hostAt_pinOut (p : HostPos) (s : State) : (hostAt p s).pinOut = s.pinOut := rfl
@[simp] theorem hostAt_isr (p : HostPos) (s : State) : (hostAt p s).isr = s.isr := rfl
@[simp] theorem hostAt_isrCnt (p : HostPos) (s : State) : (hostAt p s).isrCnt = s.isrCnt := rfl
@[simp] theorem hostAt_osr (p : HostPos) (s : State) : (hostAt p s).osr = s.osr := rfl
@[simp] theorem hostAt_osrCnt (p : HostPos) (s : State) : (hostAt p s).osrCnt = s.osrCnt := rfl
@[simp] theorem hostAt_xbit (p : HostPos) (s : State) : (hostAt p s).xbit = s.xbit := rfl
@[simp] theorem hostAt_rxq (p : HostPos) (s : State) : (hostAt p s).rxq = s.rxq := rfl
@[simp] theorem hostAt_txq (p : HostPos) (s : State) : (hostAt p s).txq = s.txq := rfl
@[simp] theorem hostAt_rxOverrun (p : HostPos) (s : State) : (hostAt p s).rxOverrun = s.rxOverrun := rfl
@[simp] theorem hostAt_contention (p : HostPos) (s : State) : (hostAt p s).contention = s.contention := rfl
@[simp] theorem hostAt_phase (p : HostPos) (s : State) : (hostAt p s).phase = s.phase := rfl
@[simp] theorem hostAt_timeout (p : HostPos) (s : State) : (hostAt p s).timeout = s.timeout := rfl
@[simp] theorem hostAt_owned (p : HostPos) (s : State) : (hostAt p s).owned = s.owned := rfl
@[simp] theorem hostAt_host (p : HostPos) (s : State) : (hostAt p s).host = p := rfl
@[simp] theorem hostAt_snapshot (p : HostPos) (s : State) : (hostAt p s).snapshot = s.snapshot := rfl
@[simp] theorem hostAt_now (p : HostPos) (s : State) : (hostAt p s).now = s.now := rfl
@[simp] theorem hostAt_console (p : HostPos) (s : State) : (hostAt p s).console = s.console := rfl
@[simp] theorem hostAt_consoleRest (p : HostPos) (s : State) : (hostAt p s).consoleRest = s.consoleRest := rfl
@[simp] theorem hostAt_tick (p : HostPos) (s : State) : (hostAt p s).tick = s.tick := rfl
@[simp] theorem hostAt_calls (p : HostPos) (s : State) : (hostAt p s).calls = s.calls := rfl
@[simp] theorem hostAt_sched (p : HostPos) (s : State) : (hostAt p s).sched = s.sched := rfl
@[simp] theorem hostAt_result (p : HostPos) (s : State) : (hostAt p s).result = s.result := rfl

@[simp] theorem returnWith_cfg (r : Result) (s : State) : (returnWith r s).cfg = s.cfg := rfl
@[simp] theorem returnWith_cursor (r : Result) (s : State) : (returnWith r s).cursor = s.cursor := rfl
@[simp] theorem returnWith_ctr (r : Result) (s : State) : (returnWith r s).ctr = s.ctr := rfl
@[simp] theorem returnWith_dir (r : Result) (s : State) : (returnWith r s).dir = s.dir := rfl
@[simp] theorem returnWith_pinOut (r : Result) (s : State) : (returnWith r s).pinOut = s.pinOut := rfl
@[simp] theorem returnWith_isr (r : Result) (s : State) : (returnWith r s).isr = s.isr := rfl
@[simp] theorem returnWith_isrCnt (r : Result) (s : State) : (returnWith r s).isrCnt = s.isrCnt := rfl
@[simp] theorem returnWith_osr (r : Result) (s : State) : (returnWith r s).osr = s.osr := rfl
@[simp] theorem returnWith_osrCnt (r : Result) (s : State) : (returnWith r s).osrCnt = s.osrCnt := rfl
@[simp] theorem returnWith_xbit (r : Result) (s : State) : (returnWith r s).xbit = s.xbit := rfl
@[simp] theorem returnWith_rxq (r : Result) (s : State) : (returnWith r s).rxq = s.rxq := rfl
@[simp] theorem returnWith_txq (r : Result) (s : State) : (returnWith r s).txq = s.txq := rfl
@[simp] theorem returnWith_rxOverrun (r : Result) (s : State) : (returnWith r s).rxOverrun = s.rxOverrun := rfl
@[simp] theorem returnWith_contention (r : Result) (s : State) : (returnWith r s).contention = s.contention := rfl
@[simp] theorem returnWith_phase (r : Result) (s : State) : (returnWith r s).phase = s.phase := rfl
@[simp] theorem returnWith_timeout (r : Result) (s : State) : (returnWith r s).timeout = s.timeout := rfl
@[simp] theorem returnWith_owned (r : Result) (s : State) : (returnWith r s).owned = s.owned := rfl
@[simp] theorem returnWith_host (r : Result) (s : State) : (returnWith r s).host = .outside := rfl
@[simp] theorem returnWith_snapshot (r : Result) (s : State) : (returnWith r s).snapshot = Snapshot.clear := rfl
@[simp] theorem returnWith_now (r : Result) (s : State) : (returnWith r s).now = s.now := rfl
@[simp] theorem returnWith_console (r : Result) (s : State) : (returnWith r s).console = s.console := rfl
@[simp] theorem returnWith_consoleRest (r : Result) (s : State) : (returnWith r s).consoleRest = s.consoleRest := rfl
@[simp] theorem returnWith_tick (r : Result) (s : State) : (returnWith r s).tick = s.tick := rfl
@[simp] theorem returnWith_calls (r : Result) (s : State) : (returnWith r s).calls = s.calls := rfl
@[simp] theorem returnWith_sched (r : Result) (s : State) : (returnWith r s).sched = s.sched := rfl
@[simp] theorem returnWith_result (r : Result) (s : State) : (returnWith r s).result = some r := rfl

@[simp] theorem setPhase_cfg (p : Phase) (s : State) : (setPhase p s).cfg = s.cfg := rfl
@[simp] theorem setPhase_cursor (p : Phase) (s : State) : (setPhase p s).cursor = s.cursor := rfl
@[simp] theorem setPhase_ctr (p : Phase) (s : State) : (setPhase p s).ctr = s.ctr := rfl
@[simp] theorem setPhase_dir (p : Phase) (s : State) : (setPhase p s).dir = s.dir := rfl
@[simp] theorem setPhase_pinOut (p : Phase) (s : State) : (setPhase p s).pinOut = s.pinOut := rfl
@[simp] theorem setPhase_isr (p : Phase) (s : State) : (setPhase p s).isr = s.isr := rfl
@[simp] theorem setPhase_isrCnt (p : Phase) (s : State) : (setPhase p s).isrCnt = s.isrCnt := rfl
@[simp] theorem setPhase_osr (p : Phase) (s : State) : (setPhase p s).osr = s.osr := rfl
@[simp] theorem setPhase_osrCnt (p : Phase) (s : State) : (setPhase p s).osrCnt = s.osrCnt := rfl
@[simp] theorem setPhase_xbit (p : Phase) (s : State) : (setPhase p s).xbit = s.xbit := rfl
@[simp] theorem setPhase_rxq (p : Phase) (s : State) : (setPhase p s).rxq = s.rxq := rfl
@[simp] theorem setPhase_txq (p : Phase) (s : State) : (setPhase p s).txq = s.txq := rfl
@[simp] theorem setPhase_rxOverrun (p : Phase) (s : State) : (setPhase p s).rxOverrun = s.rxOverrun := rfl
@[simp] theorem setPhase_contention (p : Phase) (s : State) : (setPhase p s).contention = s.contention := rfl
@[simp] theorem setPhase_phase (p : Phase) (s : State) : (setPhase p s).phase = p := rfl
@[simp] theorem setPhase_timeout (p : Phase) (s : State) : (setPhase p s).timeout = s.timeout := rfl
@[simp] theorem setPhase_owned (p : Phase) (s : State) : (setPhase p s).owned = s.owned := rfl
@[simp] theorem setPhase_host (p : Phase) (s : State) : (setPhase p s).host = s.host := rfl
@[simp] theorem setPhase_snapshot (p : Phase) (s : State) : (setPhase p s).snapshot = s.snapshot := rfl
@[simp] theorem setPhase_now (p : Phase) (s : State) : (setPhase p s).now = s.now := rfl
@[simp] theorem setPhase_console (p : Phase) (s : State) : (setPhase p s).console = s.console := rfl
@[simp] theorem setPhase_consoleRest (p : Phase) (s : State) : (setPhase p s).consoleRest = s.consoleRest := rfl
@[simp] theorem setPhase_tick (p : Phase) (s : State) : (setPhase p s).tick = s.tick := rfl
@[simp] theorem setPhase_calls (p : Phase) (s : State) : (setPhase p s).calls = s.calls := rfl
@[simp] theorem setPhase_sched (p : Phase) (s : State) : (setPhase p s).sched = s.sched := rfl
@[simp] theorem setPhase_result (p : Phase) (s : State) : (setPhase p s).result = s.result := rfl

@[simp] theorem delayUs_cfg (n : Nat) (k : AfterDelay) (s : State) : (delayUs n k s).cfg = s.cfg := rfl
@[simp] theorem delayUs_cursor (n : Nat) (k : AfterDelay) (s : State) : (delayUs n k s).cursor = s.cursor := rfl
@[simp] theorem delayUs_ctr (n : Nat) (k : AfterDelay) (s : State) : (delayUs n k s).ctr = s.ctr := rfl
@[simp] theorem delayUs_dir (n : Nat) (k : AfterDelay) (s : State) : (delayUs n k s).dir = s.dir := rfl
@[simp] theorem delayUs_pinOut (n : Nat) (k : AfterDelay) (s : State) : (delayUs n k s).pinOut = s.pinOut := rfl
@[simp] theorem delayUs_isr (n : Nat) (k : AfterDelay) (s : State) : (delayUs n k s).isr = s.isr := rfl
@[simp] theorem delayUs_isrCnt (n : Nat) (k : AfterDelay) (s : State) : (delayUs n k s).isrCnt = s.isrCnt := rfl
@[simp] theorem delayUs_osr (n : Nat) (k : AfterDelay) (s : State) : (delayUs n k s).osr = s.osr := rfl
@[simp] theorem delayUs_osrCnt (n : Nat) (k : AfterDelay) (s : State) : (delayUs n k s).osrCnt = s.osrCnt := rfl
@[simp] theorem delayUs_xbit (n : Nat) (k : AfterDelay) (s : State) : (delayUs n k s).xbit = s.xbit := rfl
@[simp] theorem delayUs_rxq (n : Nat) (k : AfterDelay) (s : State) : (delayUs n k s).rxq = s.rxq := rfl
@[simp] theorem delayUs_txq (n : Nat) (k : AfterDelay) (s : State) : (delayUs n k s).txq = s.txq := rfl
@[simp] theorem delayUs_rxOverrun (n : Nat) (k : AfterDelay) (s : State) : (delayUs n k s).rxOverrun = s.rxOverrun := rfl
@[simp] theorem delayUs_contention (n : Nat) (k : AfterDelay) (s : State) : (delayUs n k s).contention = s.contention := rfl
@[simp] theorem delayUs_phase (n : Nat) (k : AfterDelay) (s : State) : (delayUs n k s).phase = s.phase := rfl
@[simp] theorem delayUs_timeout (n : Nat) (k : AfterDelay) (s : State) : (delayUs n k s).timeout = s.timeout := rfl
@[simp] theorem delayUs_owned (n : Nat) (k : AfterDelay) (s : State) : (delayUs n k s).owned = s.owned := rfl
@[simp] theorem delayUs_host (n : Nat) (k : AfterDelay) (s : State) : (delayUs n k s).host = .delay (s.now + n * s.cfg.k) k := rfl
@[simp] theorem delayUs_snapshot (n : Nat) (k : AfterDelay) (s : State) : (delayUs n k s).snapshot = s.snapshot := rfl
@[simp] theorem delayUs_now (n : Nat) (k : AfterDelay) (s : State) : (delayUs n k s).now = s.now := rfl
@[simp] theorem delayUs_console (n : Nat) (k : AfterDelay) (s : State) : (delayUs n k s).console = s.console := rfl
@[simp] theorem delayUs_consoleRest (n : Nat) (k : AfterDelay) (s : State) : (delayUs n k s).consoleRest = s.consoleRest := rfl
@[simp] theorem delayUs_tick (n : Nat) (k : AfterDelay) (s : State) : (delayUs n k s).tick = s.tick := rfl
@[simp] theorem delayUs_calls (n : Nat) (k : AfterDelay) (s : State) : (delayUs n k s).calls = s.calls := rfl
@[simp] theorem delayUs_sched (n : Nat) (k : AfterDelay) (s : State) : (delayUs n k s).sched = s.sched := rfl
@[simp] theorem delayUs_result (n : Nat) (k : AfterDelay) (s : State) : (delayUs n k s).result = s.result := rfl

@[simp] theorem closeHostTurn_cfg (s : State) : (closeHostTurn s).cfg = s.cfg := rfl
@[simp] theorem closeHostTurn_cursor (s : State) : (closeHostTurn s).cursor = s.cursor := rfl
@[simp] theorem closeHostTurn_ctr (s : State) : (closeHostTurn s).ctr = s.ctr := rfl
@[simp] theorem closeHostTurn_dir (s : State) : (closeHostTurn s).dir = s.dir := rfl
@[simp] theorem closeHostTurn_pinOut (s : State) : (closeHostTurn s).pinOut = s.pinOut := rfl
@[simp] theorem closeHostTurn_isr (s : State) : (closeHostTurn s).isr = s.isr := rfl
@[simp] theorem closeHostTurn_isrCnt (s : State) : (closeHostTurn s).isrCnt = s.isrCnt := rfl
@[simp] theorem closeHostTurn_osr (s : State) : (closeHostTurn s).osr = s.osr := rfl
@[simp] theorem closeHostTurn_osrCnt (s : State) : (closeHostTurn s).osrCnt = s.osrCnt := rfl
@[simp] theorem closeHostTurn_xbit (s : State) : (closeHostTurn s).xbit = s.xbit := rfl
@[simp] theorem closeHostTurn_rxq (s : State) : (closeHostTurn s).rxq = s.rxq := rfl
@[simp] theorem closeHostTurn_txq (s : State) : (closeHostTurn s).txq = s.txq := rfl
@[simp] theorem closeHostTurn_rxOverrun (s : State) : (closeHostTurn s).rxOverrun = s.rxOverrun := rfl
@[simp] theorem closeHostTurn_contention (s : State) : (closeHostTurn s).contention = s.contention := rfl
@[simp] theorem closeHostTurn_phase (s : State) : (closeHostTurn s).phase = s.phase := rfl
@[simp] theorem closeHostTurn_timeout (s : State) : (closeHostTurn s).timeout = s.timeout := rfl
@[simp] theorem closeHostTurn_owned (s : State) : (closeHostTurn s).owned = s.owned := rfl
@[simp] theorem closeHostTurn_host (s : State) : (closeHostTurn s).host = s.host := rfl
@[simp] theorem closeHostTurn_snapshot (s : State) : (closeHostTurn s).snapshot = s.snapshot := rfl
@[simp] theorem closeHostTurn_now (s : State) : (closeHostTurn s).now = s.now := rfl
@[simp] theorem closeHostTurn_console (s : State) : (closeHostTurn s).console = s.console := rfl
@[simp] theorem closeHostTurn_consoleRest (s : State) : (closeHostTurn s).consoleRest = s.consoleRest := rfl
@[simp] theorem closeHostTurn_tick (s : State) : (closeHostTurn s).tick = s.tick := rfl
@[simp] theorem closeHostTurn_calls (s : State) : (closeHostTurn s).calls = s.calls := rfl
@[simp] theorem closeHostTurn_sched (s : State) : (closeHostTurn s).sched = s.sched.tail := rfl
@[simp] theorem closeHostTurn_result (s : State) : (closeHostTurn s).result = s.result := rfl

@[simp] theorem closeCycle_cfg (s t : State) : (closeCycle s t).cfg = t.cfg := rfl
@[simp] theorem closeCycle_cursor (s t : State) : (closeCycle s t).cursor = t.cursor := rfl
@[simp] theorem closeCycle_ctr (s t : State) : (closeCycle s t).ctr = t.ctr := rfl
@[simp] theorem closeCycle_dir (s t : State) : (closeCycle s t).dir = t.dir := rfl
@[simp] theorem closeCycle_pinOut (s t : State) : (closeCycle s t).pinOut = t.pinOut := rfl
@[simp] theorem closeCycle_isr (s t : State) : (closeCycle s t).isr = t.isr := rfl
@[simp] theorem closeCycle_isrCnt (s t : State) : (closeCycle s t).isrCnt = t.isrCnt := rfl
@[simp] theorem closeCycle_osr (s t : State) : (closeCycle s t).osr = t.osr := rfl
@[simp] theorem closeCycle_osrCnt (s t : State) : (closeCycle s t).osrCnt = t.osrCnt := rfl
@[simp] theorem closeCycle_xbit (s t : State) : (closeCycle s t).xbit = t.xbit := rfl
@[simp] theorem closeCycle_rxq (s t : State) : (closeCycle s t).rxq = t.rxq := rfl
@[simp] theorem closeCycle_txq (s t : State) : (closeCycle s t).txq = t.txq := rfl
@[simp] theorem closeCycle_rxOverrun (s t : State) : (closeCycle s t).rxOverrun = t.rxOverrun := rfl
@[simp] theorem closeCycle_contention (s t : State) : (closeCycle s t).contention = (t.contention || clash s) := rfl
@[simp] theorem closeCycle_phase (s t : State) : (closeCycle s t).phase = t.phase := rfl
@[simp] theorem closeCycle_timeout (s t : State) : (closeCycle s t).timeout = t.timeout := rfl
@[simp] theorem closeCycle_owned (s t : State) : (closeCycle s t).owned = t.owned := rfl
@[simp] theorem closeCycle_host (s t : State) : (closeCycle s t).host = t.host := rfl
@[simp] theorem closeCycle_snapshot (s t : State) : (closeCycle s t).snapshot = t.snapshot := rfl
@[simp] theorem closeCycle_now (s t : State) : (closeCycle s t).now = t.now + 1 := rfl
@[simp] theorem closeCycle_console (s t : State) : (closeCycle s t).console = t.console.tail := rfl
@[simp] theorem closeCycle_consoleRest (s t : State) : (closeCycle s t).consoleRest = t.consoleRest := rfl
@[simp] theorem closeCycle_tick (s t : State) : (closeCycle s t).tick = t.tick + t.cfg.ticksPerCycle := rfl
@[simp] theorem closeCycle_calls (s t : State) : (closeCycle s t).calls = t.calls := rfl
@[simp] theorem closeCycle_sched (s t : State) : (closeCycle s t).sched = t.sched.tail := rfl
@[simp] theorem closeCycle_result (s t : State) : (closeCycle s t).result = t.result := rfl

end Sys2Proof.Machine
end

