-- ==== Sys2Proof/Laws/Host.lean ====
section
/-! SUPPORT. What a host step can do, said once. -/

namespace Sys2Proof.Machine

/-- A host step that answers a next state is a step from the host's position, with no second thread
calling. -/
theorem hostAct_eq_next {s t : State} :
    hostAct s = .next t ↔ secondThreadCalls s = false ∧ hostAdvance s = .next t := by
  unfold hostAct
  cases secondThreadCalls s <;> simp

/-- A second thread's call is refused, whatever it is and wherever the host stands. -/
theorem hostAct_of_second {s : State} (h : secondThreadCalls s = true) :
    hostAct s = .refused (secondThreadRefusal s) := by
  simp [hostAct, h]

/-- The reason is `NotOwner` on an initialised core, and for `init` itself (R331). -/
theorem secondThreadRefusal_eq_notOwner {s : State} :
    secondThreadRefusal s = .notOwner ↔
      s.cursor ≠ .unstarted ∨ s.calls.head?.map Call.op = some .init := by
  unfold secondThreadRefusal started
  split <;> simp_all

/-- Only a call can be refused: a second thread's, or the one the host takes outside every operation. -/
theorem hostAct_eq_refused {s : State} {r : Refusal} (h : hostAct s = .refused r) :
    s.calls ≠ [] ∧ (s.host = .outside ∨ secondThreadCalls s = true) := by
  unfold hostAct at h
  cases h2 : secondThreadCalls s with
  | true => exact ⟨by intro hc; simp [secondThreadCalls, hc] at h2, .inr rfl⟩
  | false =>
    simp only [h2] at h
    cases hh : s.host <;> simp [hostAdvance, hh] at h
    exact ⟨by intro hc; simp [hc] at h, .inl rfl⟩

theorem hostAct_ne_fault {s : State} {f : Fault} : hostAct s ≠ .fault f := by
  unfold hostAct
  cases secondThreadCalls s <;> simp
  cases hh : s.host <;> simp [hostAdvance, hh]
  split
  · unfold takeCall
    split
    · rename_i c _ _ _
      cases c.op <;> simp only [invoke, onFreeTransport] <;> (repeat' split) <;> simp
    · simp
  · simp

/-- Every answer of an invocation: the state the operation begins in. -/
theorem invoke_next_cases {op : HostOp} {s t : State} (h : invoke op s = .next t) :
    (op = .init ∧ configOk s.cfg = true ∧ t = returnWith .transport (initTransport s)) ∨
    (s.owned = false ∧ op = .restartForRead ∧ t = returnWith .done (restartForRead s)) ∨
    (s.owned = false ∧ op = .restartForWrite ∧ t = returnWith .done (restartForWrite s)) ∨
    (s.owned = false ∧ ∃ n, op = .receiveByte n ∧ t = hostAt (.readTick n .direct) s) ∨
    (s.owned = false ∧ ∃ p, p ≠ [] ∧ op = .sendBytes p ∧ t = beginSend p .direct s) ∨
    (s.owned = false ∧ ∃ n p, op = .handshake n p ∧
      t = beginReceive .handshake
        { s with phase := .handshaking, timeout := n, snapshot := p }) ∨
    (s.phase = .idle ∧ op = .waitForPoll ∧ t = beginReceive .waitForPoll s) ∨
    (s.phase = .pollPending ∧ ∃ p, op = .respondToPoll p ∧
      t = delayUs dPollPre .discards { s with phase := .respondingPoll, snapshot := p }) := by
  cases op <;> simp only [invoke, onFreeTransport] at h <;> (repeat' split at h) <;>
    cases h <;> simp_all

end Sys2Proof.Machine
end

