-- ==== Sys2Proof/Laws/Ops.lean ====
section
/-! SUPPORT. What each shared operation can do, said once (the provers cite these instead of unfolding
the operation), and what one step can do. -/

namespace Sys2Proof.Machine

/-! ## Outcomes -/

@[simp] theorem onNext_next (f : State → State) (s : State) :
    onNext f (.next s : StepOutcome) = .next (f s) := rfl

@[simp] theorem onNext_fault (f : State → State) (r : Fault) :
    onNext f (.fault r : StepOutcome) = .fault r := rfl

@[simp] theorem onNext_refused (f : State → State) (r : Refusal) :
    onNext f (.refused r : StepOutcome) = .refused r := rfl

theorem onNext_eq_next {f : State → State} {o : StepOutcome} {t : State} :
    onNext f o = .next t ↔ ∃ u, o = .next u ∧ t = f u := by
  cases o <;> simp [onNext, eq_comm]

theorem onNext_eq_fault {f : State → State} {o : StepOutcome} {r : Fault} :
    onNext f o = .fault r ↔ o = .fault r := by
  cases o <;> simp [onNext]

theorem onNext_eq_refused {f : State → State} {o : StepOutcome} {r : Refusal} :
    onNext f o = .refused r ↔ o = .refused r := by
  cases o <;> simp [onNext]

/-! ## Turns -/

theorem turn_of_sched {s : State} {a : Agent} {rest : List Agent} (h : s.sched = a :: rest) :
    turn s = a := by
  simp [turn, h]

@[simp] theorem closeTurn_host (s t : State) : closeTurn .host s t = closeHostTurn t := rfl

@[simp] theorem closeTurn_engine (s t : State) : closeTurn .engine s t = closeCycle s t := rfl

/-! ## The restarts and the engine's actions -/

theorem restartForRead_eq (s : State) : restartForRead s = restartAt .rdEntry s := rfl

theorem restartForWrite_eq (s : State) : restartForWrite s = restartAt .wrEntry s := rfl

/-- A shift answers a next state only from a window that still holds a bit, and then it is the
shift. -/
theorem takeBit_eq_next {c : Cursor} {s t : State} :
    takeBit c s = .next t ↔ s.osrCnt ≠ 0 ∧ t = shiftOut c s := by
  unfold takeBit
  split <;> simp_all [eq_comm]

/-- A shift faults exactly on a spent window. -/
theorem takeBit_eq_fault {c : Cursor} {s : State} {f : Fault} :
    takeBit c s = .fault f ↔ s.osrCnt = 0 ∧ f = .windowUnderflow := by
  unfold takeBit
  split <;> simp_all [eq_comm]

/-- Before `init` the engine has no step, whatever its registers hold (R54, R360). -/
theorem engineAct_of_unstarted {s : State} (h : s.cursor = .unstarted) :
    engineAct s = .next s := by
  simp [engineAct, started, h]

/-- Once started the engine acts in its micro-state. -/
theorem engineAct_of_started {s : State} (h : s.cursor ≠ .unstarted) (hc : s.ctr = 0) :
    engineAct s = microState s := by
  simp [engineAct, started, h, hc]

/-- Once started a delay cycle counts down and does nothing else. -/
theorem engineAct_of_delay {s : State} (h : s.cursor ≠ .unstarted) (hc : s.ctr ≠ 0) :
    engineAct s = .next { s with ctr := s.ctr - 1 } := by
  simp [engineAct, started, h, hc]

/-- Everything an engine cycle of its own can be. -/
theorem engineAct_cases (s : State) :
    (s.cursor = .unstarted ∧ engineAct s = .next s) ∨
    (s.cursor ≠ .unstarted ∧ s.ctr ≠ 0 ∧ engineAct s = .next { s with ctr := s.ctr - 1 }) ∨
    (s.cursor ≠ .unstarted ∧ s.ctr = 0 ∧ engineAct s = microState s) := by
  by_cases h : s.cursor = .unstarted
  · exact .inl ⟨h, engineAct_of_unstarted h⟩
  · by_cases hc : s.ctr = 0
    · exact .inr (.inr ⟨h, hc, engineAct_of_started h hc⟩)
    · exact .inr (.inl ⟨h, hc, engineAct_of_delay h hc⟩)

theorem takeBit_ne_refused {c : Cursor} {s : State} {r : Refusal} : takeBit c s ≠ .refused r := by
  unfold takeBit
  split <;> simp

/-- What `RD_SAMPLE` can do: go on, deliver the byte, or hold it. -/
theorem rdSample_cases (v : Bool) (s : State) :
    (s.isrCnt ≠ 7 ∧ rdSample v s = goTo .rdWaitHigh (shiftIn v s)) ∨
    (s.isrCnt = 7 ∧ rxFull s = false ∧ rdSample v s = deliver (shiftIn v s)) ∨
    (s.isrCnt = 7 ∧ rxFull s = true ∧
      rdSample v s = { shiftIn v s with rxOverrun := true, cursor := .rdPushStall }) := by
  have hfull : rxFull (shiftIn v s) = rxFull s := rfl
  by_cases h : s.isrCnt = 7
  · cases hf : rxFull s <;> simp [rdSample, byteComplete, inThreshold, hfull, hf, h]
  · exact .inl ⟨h, by simp [rdSample, inThreshold, h]⟩

/-! ## What the machine takes up -/

theorem decode_dataCellSlices (v : Bool) :
    decode .dataCell (.cell (dataCellSlices v)) = .ok (if v then .cell1 else .cell0) := by
  cases v <;> rfl

theorem decode_stopCellSlices : decode .stopCell (.cell stopCellSlices) = .ok .cellStop := rfl

theorem decode_transmit (w : Word) : decode .transmit (.txw32 w) = .ok (decodeTxw w) := rfl

theorem decode_handshaking (b : Byte) :
    decode .handshaking (.cmd8 b) = .ok (decodeHandshaking b) := rfl

theorem decode_idle (b : Byte) : decode .idle (.cmd8 b) = .ok (decodeIdle b) := rfl

/-- The host takes up a byte only where it dispatches one. -/
theorem hostFetch_of_not_dispatch {s : State} (h : ∀ b, s.host ≠ .dispatch b) :
    hostFetch s = .own := by
  unfold hostFetch
  split <;> simp_all

/-- A delay cycle takes up nothing. -/
theorem engineFetch_of_delay {s : State} (h : s.ctr ≠ 0) : engineFetch s = .own := by
  simp [engineFetch, h]

/-- Outside the four micro-states that take up an instruction the engine takes up nothing. -/
theorem engineFetch_of_cursor {s : State} (h1 : s.cursor ≠ .wrPull) (h2 : s.cursor ≠ .wrPull2)
    (h3 : s.cursor ≠ .wrLow) (h4 : s.cursor ≠ .wrStopLow) : engineFetch s = .own := by
  unfold engineFetch
  split
  · split <;> simp_all
  · rfl

/-! ## One step -/

theorem step_of_own {s : State} (h : fetch s = .own) :
    step s = onNext (closeTurn (turn s) s) (ownAct (turn s) s) := by
  simp [step, h]

theorem step_of_object {s : State} {sp : Space} {x : Code} {i : Instr} (h : fetch s = .object sp x)
    (hd : decode sp x = .ok i) : step s = onNext (closeTurn (turn s) s) (exec i s) := by
  simp [step, h, hd]

theorem fetch_host {s : State} (h : turn s = .host) : fetch s = hostFetch s := by simp [fetch, h]

theorem fetch_engine {s : State} (h : turn s = .engine) : fetch s = engineFetch s := by
  simp [fetch, h]

/-- A host turn away from a dispatch is a host step of its own. -/
theorem step_host_own {s : State} (h : turn s = .host) (hd : ∀ b, s.host ≠ .dispatch b) :
    step s = onNext closeHostTurn (hostAct s) := by
  rw [step_of_own (by rw [fetch_host h, hostFetch_of_not_dispatch hd])]
  simp [h, ownAct]
  rfl

/-- An engine turn that takes up nothing is an engine cycle of its own. -/
theorem step_engine_own {s : State} (h : turn s = .engine) (hf : engineFetch s = .own) :
    step s = onNext (closeCycle s) (engineAct s) := by
  rw [step_of_own (by rw [fetch_engine h, hf])]
  simp [h, ownAct]
  rfl

/-- Everything a step that answers a next state can be. -/
theorem step_next_cases {s t : State} (h : step s = .next t) :
    (turn s = .host ∧ ∃ b, s.host = .dispatch b ∧
      ((s.phase = .handshaking ∧ ∃ u, exec (decodeHandshaking b) s = .next u ∧ t = closeHostTurn u) ∨
        (s.phase = .idle ∧ ∃ u, exec (decodeIdle b) s = .next u ∧ t = closeHostTurn u))) ∨
    (turn s = .host ∧ (∀ b, s.host ≠ .dispatch b) ∧
      ∃ u, hostAct s = .next u ∧ t = closeHostTurn u) ∨
    (turn s = .engine ∧ s.ctr = 0 ∧ (s.cursor = .wrPull ∧ s.osrCnt = 0 ∨ s.cursor = .wrPull2) ∧
      ∃ w rest, s.txq = w :: rest ∧ ∃ u, exec (decodeTxw w) s = .next u ∧ t = closeCycle s u) ∨
    (turn s = .engine ∧ s.ctr = 0 ∧ s.cursor = .wrLow ∧
      ∃ u, exec (if s.xbit then .cell1 else .cell0) s = .next u ∧ t = closeCycle s u) ∨
    (turn s = .engine ∧ s.ctr = 0 ∧ s.cursor = .wrStopLow ∧
      ∃ u, exec .cellStop s = .next u ∧ t = closeCycle s u) ∨
    (turn s = .engine ∧ engineFetch s = .own ∧ ∃ u, engineAct s = .next u ∧ t = closeCycle s u) := by
  cases ht : turn s with
  | host =>
    by_cases hd : ∃ b, s.host = .dispatch b
    · obtain ⟨b, hb⟩ := hd
      refine .inl ⟨rfl, b, hb, ?_⟩
      have hf : fetch s = match commandSpace s.phase with
          | some sp => .object sp (.cmd8 b)
          | none => .nowhere := by
        rw [fetch_host ht]
        simp only [hostFetch, hb]
        all_goals rfl
      cases hp : s.phase <;> simp [hp, commandSpace] at hf <;>
        simp [step, hf, decode, onNext_eq_next, ht] at h <;> simp_all
    · have hd' : ∀ b, s.host ≠ .dispatch b := fun b hb => hd ⟨b, hb⟩
      rw [step_host_own ht hd', onNext_eq_next] at h
      exact .inr (.inl ⟨rfl, hd', h⟩)
  | engine =>
    refine .inr (.inr ?_)
    by_cases hown : engineFetch s = .own
    · rw [step_engine_own ht hown, onNext_eq_next] at h
      exact .inr (.inr (.inr ⟨rfl, hown, h⟩))
    · have hc : s.ctr = 0 := by
        by_contra hc
        exact hown (engineFetch_of_delay hc)
      have hf : fetch s = engineFetch s := fetch_engine ht
      cases hq : s.cursor <;> simp only [engineFetch, hc, hq, if_true] at hf hown <;>
        try (exact absurd trivial hown)
      · cases hx : s.txq with
        | nil => simp [fetchWord, hx] at hown
        | cons w rest =>
          by_cases hw : windowExhausted s = true
          · simp [hw, fetchWord, hx] at hf
            rw [step_of_object hf (decode_transmit w), onNext_eq_next, ht] at h
            exact .inl ⟨rfl, hc, .inl ⟨rfl, by simpa [windowExhausted] using hw⟩, w, rest, rfl, h⟩
          · simp [hw] at hown
      · cases hx : s.txq with
        | nil => simp [fetchWord, hx] at hown
        | cons w rest =>
          simp [fetchWord, hx] at hf
          rw [step_of_object hf (decode_transmit w), onNext_eq_next, ht] at h
          exact .inl ⟨rfl, hc, .inr rfl, w, rest, rfl, h⟩
      · rw [step_of_object hf (decode_dataCellSlices _), onNext_eq_next, ht] at h
        exact .inr (.inl ⟨rfl, hc, rfl, h⟩)
      · rw [step_of_object hf decode_stopCellSlices, onNext_eq_next, ht] at h
        exact .inr (.inr (.inl ⟨rfl, hc, rfl, h⟩))

end Sys2Proof.Machine
end

