-- ==== Sys2Proof/Laws/PerInstr.lean ====
section
/-! SUPPORT. Statements made per instruction. The family `EncodedFormat`: the encoder gives every
instruction an object of the format its place holds (30_encoding.md R121, R126 to R128, R141). -/

namespace Sys2Proof.Laws.EncodedFormat

/-- The format each place holds: a command byte, an engine input word or a cell. -/
def fits : Space → Code → Bool
  | .handshaking, .cmd8 _ => true
  | .idle, .cmd8 _ => true
  | .transmit, .txw32 _ => true
  | .dataCell, .cell _ => true
  | .stopCell, .cell _ => true
  | _, _ => false

/-- The encoding of the instruction is an object its place holds. -/
def Statement (i : Instr) : Prop := fits i.space (encode i) = true

theorem probeHs : Statement .probeHs := rfl
theorem resetHs : Statement .resetHs := rfl
theorem originHs : Statement .originHs := rfl
theorem recalHs : Statement .recalHs := rfl
theorem pollHs : Statement .pollHs := rfl
theorem unkHs (op : Byte) : Statement (.unkHs op) := rfl
theorem probeSs : Statement .probeSs := rfl
theorem resetSs : Statement .resetSs := rfl
theorem originSs : Statement .originSs := rfl
theorem recalSs : Statement .recalSs := rfl
theorem pollSs : Statement .pollSs := rfl
theorem unkSs (op : Byte) : Statement (.unkSs op) := rfl
theorem txwMore (data : Byte) (ignored : BitVec 23) : Statement (.txwMore data ignored) := rfl
theorem txwLast (data : Byte) (ignored : BitVec 23) : Statement (.txwLast data ignored) := rfl
theorem cell0 : Statement .cell0 := rfl
theorem cell1 : Statement .cell1 := rfl
theorem cellStop : Statement .cellStop := rfl

end Sys2Proof.Laws.EncodedFormat
end

