-- ==== Sys2Proof/Laws/Queues.lean ====
section
/-! SUPPORT. The two queues keep their form under every operation that touches them: at most `QDEPTH`
entries (10_state.md R41, R42, R53), oldest first (20_memory.md R94). These lemmas stand where a
machine with an addressed memory has the laws of its memory (log 21). -/

namespace Sys2Proof.Machine

/-- Both queues hold at most `QDEPTH` entries. -/
abbrev QueuesBounded (s : State) : Prop :=
  s.rxq.length ≤ s.cfg.qdepth ∧ s.txq.length ≤ s.cfg.qdepth

theorem reset_queuesBounded : QueuesBounded State.reset := by decide

/-- An append into a receive queue with room keeps the bound. -/
theorem pushRxq_queuesBounded {b : Byte} {s : State} (h : QueuesBounded s) (hr : rxFull s = false) :
    QueuesBounded (pushRxq b s) := by
  have : ¬ s.cfg.qdepth ≤ s.rxq.length := by simpa [rxFull] using hr
  exact ⟨by simp; omega, by simpa using h.2⟩

/-- An append into a transmit queue with room keeps the bound. -/
theorem pushTxq_queuesBounded {w : Word} {s : State} (h : QueuesBounded s) (hr : txFull s = false) :
    QueuesBounded (pushTxq w s) := by
  have : ¬ s.cfg.qdepth ≤ s.txq.length := by simpa [txFull] using hr
  exact ⟨by simpa using h.1, by simp; omega⟩

/-- A removal keeps the bound. -/
theorem dropRxq_queuesBounded {s : State} (h : QueuesBounded s) : QueuesBounded (dropRxq s) :=
  ⟨by simp; have := h.1; omega, by simpa using h.2⟩

theorem dropTxq_queuesBounded {s : State} (h : QueuesBounded s) : QueuesBounded (dropTxq s) :=
  ⟨by simpa using h.1, by simp; have := h.2; omega⟩

/-- A restart empties both queues (R96). -/
theorem restartAt_queuesBounded (c : Cursor) (s : State) : QueuesBounded (restartAt c s) := by
  simp [QueuesBounded]

/-- First in, first out: what was oldest stays oldest under an append. -/
theorem pushTxq_head {w x : Word} {rest : List Word} {s : State} (h : s.txq = x :: rest) :
    (pushTxq w s).txq = x :: (rest ++ [w]) := by simp [h]

theorem pushRxq_head {b x : Byte} {rest : List Byte} {s : State} (h : s.rxq = x :: rest) :
    (pushRxq b s).rxq = x :: (rest ++ [b]) := by simp [h]

end Sys2Proof.Machine
end

