-- ==== Sys2Proof/Tests/Slice0.lean ====
section
/-! SUPPORT. Tests. Expected results are those of the spec's tables and worked examples, named in each
comment. The `witness_` theorems show, for each statement with hypotheses, a state and operands that
meet all of them, clause by clause. -/

open Sys2Proof Sys2Proof.Machine

namespace Sys2Proof.Tests

/-! ## Small states -/

/-- The state after reset with the engine at `c`, about to make an engine cycle. -/
def atCursor (c : Cursor) : State := { State.reset with cursor := c, sched := [.engine] }

/-- The state after reset with the host at `h`, about to make a host step. -/
def atHost (h : HostPos) : State := { State.reset with host := h, sched := [.host] }

/-- The state after reset, about to take a call of the caller's. -/
def calling (op : HostOp) : State := { State.reset with calls := [⟨.host, op⟩], sched := [.host] }

/-- The same on a transport a session in phase `p` owns. -/
def owning (p : Phase) (op : HostOp) : State := { calling op with phase := p, owned := true }

/-- The next state of a step, where there is one. -/
def after (s : State) : State :=
  match step s with
  | .next t => t
  | .fault _ => s
  | .refused _ => s

/-! ## Which terms are instructions (R122, R124) -/

theorem test_unkHs_refuses_the_five_recognised_bytes :
    ([0x00#8, 0xFF#8, 0x41#8, 0x42#8, 0x40#8].map fun b => (Instr.unkHs b).wellFormed) =
      [false, false, false, false, false] := by decide

theorem test_unkSs_refuses_the_five_recognised_bytes :
    ([0x00#8, 0xFF#8, 0x41#8, 0x42#8, 0x40#8].map fun b => (Instr.unkSs b).wellFormed) =
      [false, false, false, false, false] := by decide

/-- "the neighbours of the recognised ones (`0x01`, `0x3F`, `0x43`, `0xFE`)" (R124). -/
theorem test_neighbours_are_unknown :
    ([0x01#8, 0x3F#8, 0x43#8, 0xFE#8].map fun b =>
      ((Instr.unkHs b).wellFormed, decode .idle (.cmd8 b) = .ok (.unkSs b))) =
      [(true, True), (true, True), (true, True), (true, True)] := by
  simp [Instr.wellFormed, recognisedCommands, decode, decodeIdle, classify]

/-! ## Decoding, from the bits of the spec's tables (R122, R126, R127, R128) -/

theorem test_decode_probeHs : decode .handshaking (.cmd8 0b00000000#8) = .ok .probeHs := by decide
theorem test_decode_resetHs : decode .handshaking (.cmd8 0b11111111#8) = .ok .resetHs := by decide
theorem test_decode_originHs : decode .handshaking (.cmd8 0b01000001#8) = .ok .originHs := by decide
theorem test_decode_recalHs : decode .handshaking (.cmd8 0b01000010#8) = .ok .recalHs := by decide
theorem test_decode_pollHs : decode .handshaking (.cmd8 0b01000000#8) = .ok .pollHs := by decide
theorem test_decode_unkHs :
    decode .handshaking (.cmd8 0b01110111#8) = .ok (.unkHs 0x77#8) := by decide
theorem test_decode_probeSs : decode .idle (.cmd8 0b00000000#8) = .ok .probeSs := by decide
theorem test_decode_resetSs : decode .idle (.cmd8 0b11111111#8) = .ok .resetSs := by decide
theorem test_decode_originSs : decode .idle (.cmd8 0b01000001#8) = .ok .originSs := by decide
theorem test_decode_recalSs : decode .idle (.cmd8 0b01000010#8) = .ok .recalSs := by decide
theorem test_decode_pollSs : decode .idle (.cmd8 0b01000000#8) = .ok .pollSs := by decide
theorem test_decode_unkSs :
    decode .idle (.cmd8 0b01110111#8) = .ok (.unkSs 0x77#8) := by decide
/-- The word 0x09000000 of R129. -/
theorem test_decode_txwMore :
    decode .transmit (.txw32 0b00001001_0_00000000000000000000000#32) =
      .ok (.txwMore 0x09#8 0#23) := by decide
/-- The word 0x03800000 of R129, here with all ignored bits 1 (U17). -/
theorem test_decode_txwLast :
    decode .transmit (.txw32 0b00000011_1_11111111111111111111111#32) =
      .ok (.txwLast 0x03#8 0x7FFFFF#23) := by decide
theorem test_decode_cell0 : decode .dataCell (.cell 0b1000#4) = .ok .cell0 := by decide
theorem test_decode_cell1 : decode .dataCell (.cell 0b1011#4) = .ok .cell1 := by decide
theorem test_decode_cellStop : decode .stopCell (.cell 0b1011#4) = .ok .cellStop := by decide

/-- Slices that are no cell are rejected by name. -/
theorem test_decode_rejects_bad_cells :
    decode .dataCell (.cell 0b1001#4) = .rejected .notABitCell ∧
    decode .stopCell (.cell 0b1000#4) = .rejected .notAStopCell ∧
    decode .transmit (.cmd8 0x40#8) = .rejected .wrongFormat := by decide

/-- The rows of opcode_table.json in file order select by first match what R123 classifies (R141). -/
theorem test_first_match_agrees_with_classify :
    ∀ b : Byte, firstMatchingTag b = some (classify b) := by decide +kernel

theorem test_decodeTableWord_formats :
    decodeTableWord 8 0x41 = some .originHs ∧
    decodeTableWord 32 0x09000000 = some (.txwMore 0x09#8 0#23) ∧
    decodeTableWord 32 0x00800000 = some (.txwLast 0x00#8 0#23) ∧
    decodeTableWord 24 0x800000 = some (.txwLast 0x00#8 0#23) ∧
    decodeTableWord 4 8 = some .cell0 ∧ decodeTableWord 4 11 = some .cell1 ∧
    decodeTableWord 4 9 = none ∧ decodeTableWord 8 0x141 = none := by decide

/-! ## The first instruction after reset -/

theorem test_withFetchWord_runs_a_command :
    step (State.reset.withFetchWord 8 0x41) =
      onNext closeHostTurn (exec .originHs (State.reset.withFetchWord 8 0x41)) := rfl

theorem test_withFetchWord_runs_a_word :
    step (State.reset.withFetchWord 32 0x03800000) =
      onNext (closeCycle (State.reset.withFetchWord 32 0x03800000))
        (exec (.txwLast 0x03#8 0#23) (State.reset.withFetchWord 32 0x03800000)) := rfl

theorem test_withFetchWord_runs_a_cell :
    step (State.reset.withFetchWord 4 0b1000) =
      onNext (closeCycle (State.reset.withFetchWord 4 0b1000))
        (exec .cell0 (State.reset.withFetchWord 4 0b1000)) := rfl

/-! ## One step of each instruction -/

/-- A command byte dispatched at cycle `n` in phase `p`. -/
def dispatching (p : Phase) (n : Nat) (b : Byte) : State :=
  { atHost (.dispatch b) with phase := p, now := n }

/-- "host has it at 401, delay to 441" and the identity reply (R265). -/
theorem test_probeHs_delays_to_441 :
    (after (dispatching .handshaking 401 0x00#8)).host =
      .delay 441 (.reply [0x09#8, 0x00#8, 0x03#8] .handshake) := by decide

/-- Identical to PROBE (R266). -/
theorem test_resetHs_is_probeHs :
    (after (dispatching .handshaking 401 0xFF#8)).host =
      .delay 441 (.reply [0x09#8, 0x00#8, 0x03#8] .handshake) := by decide

/-- Scenario 2: byte 1 is 0b10000000 in the handshake (R267). -/
theorem test_originHs_replies_with_byte_1_0x80 :
    (after (dispatching .handshaking 401 0x41#8)).host =
      .delay 441 (.reply [0#8, 128#8, 128#8, 128#8, 128#8, 128#8, 0#8, 0#8, 0#8, 0#8]
        .handshake) := by decide

theorem test_recalHs_is_originHs :
    (after (dispatching .handshaking 401 0x42#8)).host =
      .delay 441 (.reply [0#8, 128#8, 128#8, 128#8, 128#8, 128#8, 0#8, 0#8, 0#8, 0#8]
        .handshake) := by decide

/-- Scenario 3: a pressed, all else false, sticks at 128 (R269). -/
theorem test_pollHs_sends_the_report_at_once :
    (after { dispatching .handshaking 401 0x40#8 with
      snapshot := { Snapshot.clear with
        a := true, stickX := 128, stickY := 128, cstickX := 128, cstickY := 128 } }).host =
      .waitLine [0b00000001#8, 0b10000000#8, 128#8, 128#8, 128#8, 128#8, 0#8, 0#8] .handshake := by
  decide

/-- "byte at host at cycle 401, `restart_for_read` at 1701" (R270). -/
theorem test_unkHs_delays_to_1701 :
    (after (dispatching .handshaking 401 0x77#8)).host = .delay 1701 (.recover .handshake) := by
  decide

theorem test_probeSs_returns_to_the_loop :
    (after (dispatching .idle 401 0x00#8)).host =
      .delay 441 (.reply [0x09#8, 0x00#8, 0x03#8] .waitForPoll) := by decide

theorem test_resetSs_is_probeSs :
    (after (dispatching .idle 401 0xFF#8)).host =
      .delay 441 (.reply [0x09#8, 0x00#8, 0x03#8] .waitForPoll) := by decide

/-- "byte at host at 501, restart for write at 541"; byte 1 is 0x01 in steady state (R275). -/
theorem test_originSs_replies_with_byte_1_0x01 :
    (after (dispatching .idle 501 0x41#8)).host =
      .delay 541 (.reply [0#8, 1#8, 128#8, 128#8, 128#8, 128#8, 0#8, 0#8, 0#8, 0#8]
        .waitForPoll) := by decide

theorem test_recalSs_is_originSs :
    (after (dispatching .idle 501 0x42#8)).host =
      .delay 541 (.reply [0#8, 1#8, 128#8, 128#8, 128#8, 128#8, 0#8, 0#8, 0#8, 0#8]
        .waitForPoll) := by decide

/-- POLL ends `wait_for_poll` (R277). -/
theorem test_pollSs_returns_with_a_poll_pending :
    (after (dispatching .idle 3301 0x40#8)).phase = .pollPending ∧
    (after (dispatching .idle 3301 0x40#8)).host = .outside := by decide

/-- `0x77` at cycle `c`: `restart_for_read` at `c + 1300` (R278). -/
theorem test_unkSs_delays_1300_cycles :
    (after (dispatching .idle 100 0x77#8)).host = .delay 1400 (.recover .waitForPoll) ∧
    (after (dispatching .idle 100 0x77#8)).phase = .errorRecovery := by decide

/-- `TXQ = [0x09000000, ...]`: `osr <- 0x09000000`, `osr_cnt <- 9` (R173). -/
theorem test_txwMore_is_taken_whole :
    (after { atCursor .wrPull with txq := [0x09000000#32, 0x00000000#32] }).osr = 0x09000000#32 ∧
    (after { atCursor .wrPull with txq := [0x09000000#32, 0x00000000#32] }).osrCnt = 9 ∧
    (after { atCursor .wrPull with txq := [0x09000000#32, 0x00000000#32] }).txq = [0#32] := by
  decide

/-- `WR_PULL2` goes on at `WR_SHIFT2` (R178). -/
theorem test_txwLast_in_wrPull2 :
    (after { atCursor .wrPull2 with txq := [0x03800000#32] }).cursor = .wrShift2 ∧
    (after { atCursor .wrPull2 with txq := [0x03800000#32] }).osr = 0x03800000#32 := by decide

/-- Low for `C1 = 10` cycles, the one that acts included (R183). -/
theorem test_cell0_opens_low :
    (after { atCursor .wrLow with dir := .output }).pinOut = false ∧
    (after { atCursor .wrLow with dir := .output }).ctr = 9 ∧
    (after { atCursor .wrLow with dir := .output }).cursor = .wrVal := by decide

theorem test_cell1_keeps_its_value :
    (after { atCursor .wrLow with dir := .output, xbit := true }).xbit = true ∧
    (after { atCursor .wrLow with dir := .output, xbit := true }).pinOut = false := by decide

theorem test_cellStop_opens_low :
    (after { atCursor .wrStopLow with dir := .output }).pinOut = false ∧
    (after { atCursor .wrStopLow with dir := .output }).cursor = .wrStopHigh := by decide

/-! ## Worked examples of the engine and the transport -/

/-- `isr = 0b0101001`, `isr_cnt = 6`, `L = 0` gives `isr = 0x52`, `isr_cnt = 7` (R167). -/
theorem test_rdSample_shifts_in :
    (after { atCursor .rdSample with isr := 0b0101001#8, isrCnt := 6, console := [.driveLow] }).isr =
      0x52#8 ∧
    (after { atCursor .rdSample with
      isr := 0b0101001#8, isrCnt := 6, console := [.driveLow] }).isrCnt = 7 := by decide

/-- Detection at cycle 100 sets `ctr` to 19 (R166). -/
theorem test_rdWaitLow_sets_19 :
    (after { atCursor .rdWaitLow with console := [.driveLow] }).ctr = 19 := by decide

/-- `osr = 0x09000000`, `osr_cnt = 9` gives `xbit = 0`, `osr = 0x12000000`, `osr_cnt = 8` (R174). -/
theorem test_wrShift_takes_bit_31 :
    (after { atCursor .wrShift with osr := 0x09000000#32, osrCnt := 9 }).osr = 0x12000000#32 ∧
    (after { atCursor .wrShift with osr := 0x09000000#32, osrCnt := 9 }).xbit = false ∧
    (after { atCursor .wrShift with osr := 0x09000000#32, osrCnt := 9 }).osrCnt = 8 := by decide

/-- `send_bytes([0x09, 0x00, 0x03])` makes 0x09000000, 0x00000000, 0x03800000 (R226). -/
theorem test_txWords_of_the_identity_reply :
    txWords [0x09#8, 0x00#8, 0x03#8] = [0x09000000#32, 0x00000000#32, 0x03800000#32] := by decide

/-- RXQ = `[0x12]`, `isr_cnt = 3`: after `restart_for_read` RXQ = `[]`, `isr_cnt = 0`, `RD_ENTRY` (R222). -/
theorem test_restart_flushes :
    (after { calling .restartForRead with rxq := [0x12#8], isrCnt := 3 }).rxq = [] ∧
    (after { calling .restartForRead with rxq := [0x12#8], isrCnt := 3 }).isrCnt = 0 := by decide

/-- Before `init` "the engine has no step": a count left over stays (R54). -/
theorem test_no_step_before_init :
    (after { atCursor .unstarted with ctr := 7 }).ctr = 7 ∧
    (after { atCursor .unstarted with ctr := 0, dir := .output, pinOut := false }).pinOut = false := by
  decide

/-- "The core stores no snapshot between cycles" (R284): POLL's report is handed over, and the return of
its send leaves none. -/
theorem test_no_snapshot_after_the_return :
    (after { atHost (.push [1#8] 0 .respond) with
      snapshot := { Snapshot.clear with a := true } }).host = .outside ∧
    (after { atHost (.push [1#8] 0 .respond) with
      snapshot := { Snapshot.clear with a := true } }).snapshot = Snapshot.clear := by decide

/-- Before `init` nothing but `init` is taken (R363). -/
theorem test_before_init :
    step { calling .restartForRead with cursor := .unstarted } = .refused .notInitialised := rfl

/-- A second thread is `NotOwner`; `init` is no operation on a transport, so before `init` too (R325,
R331). -/
theorem test_second_thread_calls_init_before_init :
    step { atHost .outside with cursor := .unstarted, calls := [⟨.second, .init⟩] } =
      .refused .notOwner := rfl

/-- "`send_bytes` never returns" when the console never releases the wire (R342): a host turn of the
line-idle wait leaves it waiting, with the script used up. -/
theorem test_send_waits_on_an_endless_low :
    (after { atHost (.waitLine [1#8] .direct) with consoleRest := .hold .driveLow }).host =
      .waitLine [1#8] .direct := by decide

/-! ## Witnesses: every clause of every statement with hypotheses is met by some state -/

theorem witness_DecodingAnEncodedInstruction :
    (Instr.unkHs 0x01#8).wellFormed = true ∧ (Instr.unkSs 0xFE#8).wellFormed = true ∧
    (Instr.txwMore 0xFF#8 0x7FFFFF#23).wellFormed = true ∧
    (Instr.txwLast 0x00#8 0#23).wellFormed = true ∧ Instr.cellStop.wellFormed = true := by decide

theorem witness_EncodingADecodedObject :
    decode .handshaking (.cmd8 0x43#8) = .ok (.unkHs 0x43#8) ∧
    decode .idle (.cmd8 0x00#8) = .ok .probeSs ∧
    decode .transmit (.txw32 0xFFFFFFFF#32) = .ok (.txwLast 0xFF#8 0x7FFFFF#23) ∧
    decode .dataCell (.cell 0b1000#4) = .ok .cell0 ∧
    decode .stopCell (.cell 0b1011#4) = .ok .cellStop := by decide

theorem witness_ReportIsInjective :
    report Snapshot.clear = report Snapshot.clear ∧
    report Snapshot.clear = [0x00#8, 0x80#8, 0#8, 0#8, 0#8, 0#8, 0#8, 0#8] ∧
    (0x1F#8).extractLsb' 5 3 = 0#3 ∧ (0x80#8).getLsbD 7 = true := by decide

theorem witness_CannedRepliesBeginInHandshaking :
    (Instr.probeHs = .probeHs ∨ Instr.probeHs = .resetHs) ∧
    (Instr.resetHs = .probeHs ∨ Instr.resetHs = .resetHs) ∧
    (Instr.originHs = .originHs ∨ Instr.originHs = .recalHs) ∧
    (Instr.recalHs = .originHs ∨ Instr.recalHs = .recalHs) := by decide

theorem witness_CannedRepliesBeginInIdle :
    (Instr.probeSs = .probeSs ∨ Instr.probeSs = .resetSs) ∧
    (Instr.resetSs = .probeSs ∨ Instr.resetSs = .resetSs) ∧
    (Instr.originSs = .originSs ∨ Instr.originSs = .recalSs) ∧
    (Instr.recalSs = .originSs ∨ Instr.recalSs = .recalSs) := by decide

theorem witness_EveryDispatchedByteHasANextState :
    turn (dispatching .handshaking 0 0x01#8) = .host ∧
    (dispatching .handshaking 0 0x01#8).host = .dispatch 0x01#8 ∧
    (dispatching .handshaking 0 0x01#8).phase = .handshaking ∧
    turn (dispatching .idle 0 0x00#8) = .host ∧
    (dispatching .idle 0 0x00#8).host = .dispatch 0x00#8 ∧
    (dispatching .idle 0 0x00#8).phase = .idle := by decide

theorem witness_EngineWordOpensANineBitWindow :
    (atCursor .wrPull).cursor = .wrPull ∧ (atCursor .wrPull2).cursor = .wrPull2 := by decide

theorem witness_StepRunsTheDispatchedCommand :
    turn (dispatching .handshaking 0 0xFF#8) = .host ∧
    (dispatching .handshaking 0 0xFF#8).host = .dispatch 0xFF#8 ∧
    (dispatching .handshaking 0 0xFF#8).phase = .handshaking ∧
    turn (dispatching .idle 0 0x42#8) = .host ∧
    (dispatching .idle 0 0x42#8).host = .dispatch 0x42#8 ∧
    (dispatching .idle 0 0x42#8).phase = .idle := by decide

/-- A pull that finds a word, in `WR_PULL` with the window exhausted and in `WR_PULL2`. -/
theorem witness_StepRunsThePulledWord :
    ∀ c ∈ [Cursor.wrPull, .wrPull2],
      turn { atCursor c with txq := [0x03800000#32] } = .engine ∧
      ({ atCursor c with txq := [0x03800000#32] } : State).ctr = 0 ∧
      ({ atCursor c with txq := [0x03800000#32] } : State).txq = 0x03800000#32 :: [] ∧
      (({ atCursor c with txq := [0x03800000#32] } : State).cursor = .wrPull ∧
          ({ atCursor c with txq := [0x03800000#32] } : State).osrCnt = 0 ∨
        ({ atCursor c with txq := [0x03800000#32] } : State).cursor = .wrPull2) := by decide

/-- The hypotheses of the statements about one engine cycle in micro-state `c`: an engine turn, no
delay under way, the cursor at `c`. -/
theorem witness_an_engine_cycle_in_every_micro_state :
    ∀ c ∈ [Cursor.rdEntry, .rdWaitHigh, .rdWaitLow, .rdSample, .rdPushStall, .wrEntry, .wrHigh,
        .wrPull, .wrShift, .wrTest9, .wrTestStop, .wrPull2, .wrShift2, .wrJmpFast, .wrPadBit,
        .wrPadFast, .wrLow, .wrVal, .wrLoop, .wrPadStop, .wrStopLow, .wrStopHigh, .wrToRead],
      turn (atCursor c) = .engine ∧ (atCursor c).ctr = 0 ∧ (atCursor c).cursor = c := by decide

theorem witness_StepRunsTheOpenedCell :
    turn (atCursor .wrLow) = .engine ∧ (atCursor .wrLow).ctr = 0 ∧
    (atCursor .wrLow).cursor = .wrLow ∧
    turn (atCursor .wrStopLow) = .engine ∧ (atCursor .wrStopLow).ctr = 0 ∧
    (atCursor .wrStopLow).cursor = .wrStopLow := by decide

/-- The last delay cycle, and a turn before `init` with a count left over. -/
theorem witness_DelayCycleOnlyCountsDown :
    turn { atCursor .wrVal with ctr := 1 } = .engine ∧
    ({ atCursor .wrVal with ctr := 1 } : State).cursor ≠ .unstarted ∧
    0 < ({ atCursor .wrVal with ctr := 1 } : State).ctr ∧
    turn { atCursor .unstarted with ctr := 1 } = .engine ∧
    ({ atCursor .unstarted with ctr := 1 } : State).cursor = .unstarted := by decide

theorem witness_EntryStatesSetTheDirection :
    turn (atCursor .rdEntry) = .engine ∧ (atCursor .rdEntry).ctr = 0 ∧
    (atCursor .rdEntry).cursor = .rdEntry ∧
    turn (atCursor .wrEntry) = .engine ∧ (atCursor .wrEntry).ctr = 0 ∧
    (atCursor .wrEntry).cursor = .wrEntry := by decide

theorem witness_ReadLoopWaitsForAFallingEdge :
    turn (atCursor .rdWaitHigh) = .engine ∧ (atCursor .rdWaitHigh).ctr = 0 ∧
    (atCursor .rdWaitHigh).cursor = .rdWaitHigh ∧
    turn (atCursor .rdWaitLow) = .engine ∧ (atCursor .rdWaitLow).ctr = 0 ∧
    (atCursor .rdWaitLow).cursor = .rdWaitLow := by decide

/-- The seventh bit, the eighth with room, the eighth without. -/
theorem witness_SampleShiftsInAndTheEighthBitDelivers :
    turn { atCursor .rdSample with isrCnt := 6 } = .engine ∧
    (0x00#8 <<< 1) ||| (if line { atCursor .rdSample with isrCnt := 6 } then 1#8 else 0#8) = 1#8 ∧
    ({ atCursor .rdSample with isrCnt := 6 } : State).isrCnt ≠ 7 ∧
    ({ atCursor .rdSample with isrCnt := 7, rxq := [1#8, 2#8, 3#8] } : State).isrCnt = 7 ∧
    ({ atCursor .rdSample with isrCnt := 7, rxq := [1#8, 2#8, 3#8] } : State).rxq.length <
      State.reset.cfg.qdepth ∧
    State.reset.cfg.qdepth ≤
      ({ atCursor .rdSample with isrCnt := 7, rxq := [1#8, 2#8, 3#8, 4#8] } : State).rxq.length := by
  decide

theorem witness_HeldByteIsDeliveredOnceThereIsRoom :
    turn (atCursor .rdPushStall) = .engine ∧ (atCursor .rdPushStall).ctr = 0 ∧
    (atCursor .rdPushStall).cursor = .rdPushStall := by decide

/-- The first bit of a window and its last one. -/
theorem witness_WriteLoopDrivesHighAndTakesTheTopBit :
    turn { atCursor .wrShift with osrCnt := 9 } = .engine ∧
    0 < ({ atCursor .wrShift with osrCnt := 9 } : State).osrCnt ∧
    turn { atCursor .wrShift2 with osrCnt := 1 } = .engine ∧
    0 < ({ atCursor .wrShift2 with osrCnt := 1 } : State).osrCnt ∧
    turn (atCursor .wrHigh) = .engine ∧ (atCursor .wrHigh).cursor = .wrHigh := by decide

theorem witness_PullStallsOnAnEmptyQueueOnly :
    turn (atCursor .wrPull) = .engine ∧ (atCursor .wrPull).osrCnt = 0 ∧
    (atCursor .wrPull).txq = [] ∧
    turn (atCursor .wrPull2) = .engine ∧ (atCursor .wrPull2).txq = [] ∧
    0 < ({ atCursor .wrPull with osrCnt := 1 } : State).osrCnt := by decide

theorem witness_WriteLoopTestsAndPads :
    ∀ c ∈ [Cursor.wrTest9, .wrTestStop, .wrJmpFast, .wrPadBit, .wrPadFast, .wrPadStop],
      turn (atCursor c) = .engine ∧ (atCursor c).ctr = 0 ∧ (atCursor c).cursor = c := by decide

theorem witness_ValuePhaseAndReturnToRead :
    ∀ c ∈ [Cursor.wrVal, .wrLoop, .wrStopHigh, .wrToRead],
      turn (atCursor c) = .engine ∧ (atCursor c).ctr = 0 ∧ (atCursor c).cursor = c := by decide

theorem witness_LineIsDrivenByTheCoreOrTheConsole :
    (atCursor .wrHigh).cursor ≠ .unstarted ∧
    ({ atCursor .wrHigh with dir := .output } : State).dir = .output ∧
    ({ atCursor .rdWaitLow with console := [.driveLow] } : State).dir = .input ∧
    consoleNow { atCursor .rdWaitLow with console := [.driveLow] } = .driveLow ∧
    consoleNow (atCursor .rdWaitLow) = .release ∧ (atCursor .rdWaitLow).console = [] ∧
    (atCursor .rdWaitLow).consoleRest = .hold .release ∧
    consoleNow { atCursor .rdWaitLow with consoleRest := .hold .driveLow } = .driveLow ∧
    ({ atCursor .rdWaitLow with consoleRest := .free 7 } : State).consoleRest = .free 7 ∧
    consoleNow { atCursor .unstarted with dir := .output, console := [.driveLow] } = .driveLow ∧
    line { atCursor .unstarted with dir := .output, pinOut := true, console := [.driveLow] } =
      false ∧
    line { atCursor .unstarted with dir := .output, pinOut := false } = true := by decide

/-- The smallest legal `K`, one byte, a queue with room for exactly it. -/
def frameState : State :=
  { State.reset with
    cfg := { k := 9, qdepth := 1, ticksPerCycle := 1 }
    cursor := .rdWaitLow
    console := consoleFrame { k := 9, qdepth := 1, ticksPerCycle := 1 } [0x81#8]
    sched := List.replicate 307 .engine }

theorem witness_ConsoleFrameIsReceived :
    [0x81#8] ≠ [] ∧ configOk frameState.cfg = true ∧ frameState.cursor = .rdWaitLow ∧
    frameState.ctr = 0 ∧ frameState.dir = .input ∧ frameState.isr = 0 ∧ frameState.isrCnt = 0 ∧
    frameState.rxq.length + [0x81#8].length ≤ frameState.cfg.qdepth ∧
    frameState.console = consoleFrame frameState.cfg [0x81#8] ++ [] ∧
    307 = 8 * [0x81#8].length * (4 * frameState.cfg.k) + 2 * frameState.cfg.k + 1 ∧
    engineOnly 307 frameState :=
  ⟨by decide, by decide, rfl, rfl, rfl, rfl, rfl, by decide, (List.append_nil _).symm, by decide,
    (List.take_replicate ..).trans (by rw [Nat.min_self])⟩

/-- The smallest legal `K`, one byte. -/
def payloadState : State :=
  { State.reset with
    cfg := { k := 9, qdepth := 1, ticksPerCycle := 1 }
    cursor := .wrHigh
    dir := .output
    txq := txWords [0x81#8]
    sched := List.replicate 325 .engine }

theorem witness_QueuedPayloadIsDriven :
    [0x81#8] ≠ [] ∧ configOk payloadState.cfg = true ∧ payloadState.cursor = .wrHigh ∧
    payloadState.ctr = 0 ∧ payloadState.dir = .output ∧ payloadState.pinOut = true ∧
    payloadState.osrCnt = 0 ∧ payloadState.txq = txWords [0x81#8] ∧
    325 = 1 + (8 * [0x81#8].length + 1) * (4 * payloadState.cfg.k) ∧
    engineOnly 325 payloadState :=
  ⟨by decide, by decide, rfl, rfl, rfl, rfl, rfl, rfl, by decide,
    (List.take_replicate ..).trans (by rw [Nat.min_self])⟩

/-! ### Statements about every step -/

/-- A step of the engine and a step of the host that answer a next state, from states that meet both
invariants. -/
theorem witness_EveryStepKeepsTheEngineInvariant :
    EngineInv (atCursor .rdEntry) ∧
    step (atCursor .rdEntry) = .next (after (atCursor .rdEntry)) ∧
    EngineInv (calling .init) ∧ step (calling .init) = .next (after (calling .init)) :=
  ⟨by decide, rfl, by decide, rfl⟩

theorem witness_EveryStepKeepsTheSessionInvariant :
    SessionInv (dispatching .handshaking 401 0x77#8) ∧
    step (dispatching .handshaking 401 0x77#8) =
      .next (after (dispatching .handshaking 401 0x77#8)) ∧
    SessionInv (calling (.receiveByte 0)) ∧
    step (calling (.receiveByte 0)) = .next (after (calling (.receiveByte 0))) :=
  ⟨by decide, rfl, by decide, rfl⟩

theorem witness_NoStepFaultsUnderTheInvariant :
    EngineInv { atCursor .wrShift with dir := .output, osrCnt := 1 } ∧
    step { atCursor .wrShift with dir := .output, osrCnt := 1 } =
      .next (after { atCursor .wrShift with dir := .output, osrCnt := 1 }) ∧
    step (atCursor .wrShift) = .fault .windowUnderflow :=
  ⟨by decide, rfl, rfl⟩

theorem witness_OnlyCallsAreRefused :
    SessionInv (calling .waitForPoll) ∧ step (calling .waitForPoll) = .refused .wrongPhase ∧
    SessionInv { atHost (.readTick 5 .direct) with calls := [⟨.second, .init⟩] } ∧
    step { atHost (.readTick 5 .direct) with calls := [⟨.second, .init⟩] } = .refused .notOwner :=
  ⟨by decide, rfl, by decide, rfl⟩

/-- Both flags set by one step each. -/
theorem witness_StickyFlagsAreSetExactly :
    step { atCursor .wrHigh with dir := .output, console := [.driveLow] } =
      .next (after { atCursor .wrHigh with dir := .output, console := [.driveLow] }) ∧
    (after { atCursor .wrHigh with dir := .output, console := [.driveLow] }).contention = true ∧
    (after { atCursor .rdSample with isrCnt := 7, rxq := [1#8, 2#8, 3#8, 4#8] }).rxOverrun = true :=
  ⟨rfl, by decide, by decide⟩

/-- Two states that differ in ignored bits of a queued word and in spent bits of `osr`. -/
theorem witness_IgnoredBitsAreNeverExamined :
    sameButIgnoredBits { atCursor .wrPull with txq := [0x03800000#32], osr := 0#32 }
      { atCursor .wrPull with txq := [0x03812345#32], osr := 0x00ABCDEF#32 } :=
  ⟨rfl, by decide, by decide⟩

theorem witness_DirectionIsWrittenOnlyByEntriesAndInit :
    step (atCursor .wrEntry) = .next (after (atCursor .wrEntry)) ∧
    (after (atCursor .wrEntry)).dir ≠ (atCursor .wrEntry).dir ∧
    step { atCursor .rdEntry with dir := .output } =
      .next (after { atCursor .rdEntry with dir := .output }) ∧
    step { calling .init with dir := .output } =
      .next (after { calling .init with dir := .output }) ∧
    (calling .init).calls.head? = some ⟨.host, .init⟩ :=
  ⟨rfl, by decide, rfl, rfl, rfl⟩

theorem witness_ModesChangeOnlyByRestart :
    step (calling .restartForWrite) = .next (after (calling .restartForWrite)) ∧
    readMode (calling .restartForWrite).cursor = true ∧
    writeMode (after (calling .restartForWrite)).cursor = true ∧
    step (atCursor .wrToRead) = .next (after (atCursor .wrToRead)) ∧
    writeMode (atCursor .wrToRead).cursor = true ∧
    readMode (after (atCursor .wrToRead)).cursor = true :=
  ⟨rfl, by decide, by decide, rfl, by decide, by decide⟩

theorem witness_QueuesAreFirstInFirstOut :
    step { atCursor .rdPushStall with isr := 5#8, isrCnt := 8, rxq := [1#8, 2#8, 3#8] } =
      .next (after { atCursor .rdPushStall with isr := 5#8, isrCnt := 8, rxq := [1#8, 2#8, 3#8] }) ∧
    turn (atCursor .rdPushStall) = .engine ∧
    step { atHost (.testQueue 0 0 .direct) with rxq := [1#8, 2#8] } =
      .next (after { atHost (.testQueue 0 0 .direct) with rxq := [1#8, 2#8] }) ∧
    turn (atHost (.testQueue 0 0 .direct)) = .host :=
  ⟨rfl, by decide, rfl, by decide⟩

theorem witness_HostReachesTheEngineOnlyByRestart :
    step (atHost (.restartWrite [1#8] .direct)) = .next (after (atHost (.restartWrite [1#8] .direct))) ∧
    turn (atHost (.restartWrite [1#8] .direct)) = .host ∧
    step { calling .init with pinOut := false } =
      .next (after { calling .init with pinOut := false }) ∧
    turn { calling .init with pinOut := false } = .host :=
  ⟨rfl, by decide, rfl, by decide⟩

theorem witness_EngineCycleLeavesTheSessionAlone :
    step (atCursor .rdWaitLow) = .next (after (atCursor .rdWaitLow)) ∧
    turn (atCursor .rdWaitLow) = .engine := ⟨rfl, by decide⟩

theorem witness_EngineNeverSamplesAndDrivesInOneMode :
    step (atCursor .wrEntry) = .next (after (atCursor .wrEntry)) ∧
    turn (atCursor .wrEntry) = .engine ∧ writeMode (atCursor .wrEntry).cursor = true ∧
    step (atCursor .rdSample) = .next (after (atCursor .rdSample)) ∧
    turn (atCursor .rdSample) = .engine ∧ readMode (atCursor .rdSample).cursor = true ∧
    EngineInv (atCursor .rdSample) ∧ (atCursor .rdSample).cursor ≠ .rdEntry :=
  ⟨rfl, by decide, by decide, rfl, by decide, by decide, by decide, by decide⟩

/-! ### Statements about host operations -/

/-- `init` on the smallest legal configuration, and on the two that fail by one. -/
theorem witness_InitPlacesTheEngineAtTheReadEntry :
    turn (calling .init) = .host ∧ (calling .init).host = .outside ∧
    (calling .init).calls = ⟨.host, .init⟩ :: [] ∧
    configOk { k := 9, qdepth := 1, ticksPerCycle := 0 } = true ∧
    step { calling .init with cfg := { k := 8, qdepth := 1, ticksPerCycle := 1 } } =
      .refused .badConfig ∧
    step { calling .init with cfg := { k := 9, qdepth := 0, ticksPerCycle := 1 } } =
      .refused .badConfig :=
  ⟨by decide, by decide, rfl, by decide, rfl, rfl⟩

theorem witness_RestartsFlushAndPlaceTheCursor :
    ∀ op ∈ [HostOp.restartForRead, .restartForWrite],
      turn (calling op) = .host ∧ (calling op).host = .outside ∧ (calling op).owned = false ∧
      (calling op).cursor ≠ .unstarted ∧ (calling op).calls = ⟨.host, op⟩ :: [] := by decide

theorem witness_OperationsBeforeInitAreRefused :
    turn { calling (.receiveByte 0) with cursor := .unstarted } = .host ∧
    ({ calling (.receiveByte 0) with cursor := .unstarted } : State).host = .outside ∧
    ({ calling (.receiveByte 0) with cursor := .unstarted } : State).calls =
      ⟨.host, .receiveByte 0⟩ :: [] ∧
    HostOp.receiveByte 0 ≠ .init := by decide

theorem witness_OwnedTransportAndSecondThreadAreRefused :
    turn (owning .idle (.receiveByte 0)) = .host ∧
    (owning .idle (.receiveByte 0)).cursor ≠ .unstarted ∧
    (owning .idle (.receiveByte 0)).host = .outside ∧
    (owning .idle (.receiveByte 0)).owned = true ∧
    (owning .idle (.receiveByte 0)).calls = ⟨.host, .receiveByte 0⟩ :: [] ∧
    (∀ p, HostOp.receiveByte 0 ≠ .respondToPoll p) ∧
    turn { atHost .outside with calls := [⟨.second, .init⟩] } = .host ∧
    (∀ b, (atHost .outside).host ≠ .dispatch b) ∧
    turn { atHost .outside with cursor := .unstarted, calls := [⟨.second, .init⟩] } = .host ∧
    ({ atHost .outside with cursor := .unstarted, calls := [⟨.second, .init⟩] } : State).calls =
      ⟨.second, .init⟩ :: [] :=
  ⟨by decide, by decide, by decide, by decide, rfl, fun _ => HostOp.noConfusion, by decide,
    fun _ => HostPos.noConfusion, by decide, rfl⟩

theorem witness_WrongPhaseAndEmptyPayloadAreRefused :
    turn (owning .pollPending .waitForPoll) = .host ∧
    (owning .pollPending .waitForPoll).phase ≠ .idle ∧
    (owning .pollPending .waitForPoll).calls = ⟨.host, .waitForPoll⟩ :: [] ∧
    turn (owning .idle (.respondToPoll Snapshot.clear)) = .host ∧
    (owning .idle (.respondToPoll Snapshot.clear)).phase ≠ .pollPending ∧
    turn (calling (.sendBytes [])) = .host ∧ (calling (.sendBytes [])).owned = false ∧
    (calling (.sendBytes [])).calls = ⟨.host, .sendBytes []⟩ :: [] := by decide

theorem witness_OperationsBeginAsTheirRulesSay :
    turn (calling (.handshake 0 Snapshot.clear)) = .host ∧
    (calling (.handshake 0 Snapshot.clear)).owned = false ∧
    (calling (.handshake 0 Snapshot.clear)).calls = ⟨.host, .handshake 0 Snapshot.clear⟩ :: [] ∧
    (owning .idle .waitForPoll).phase = .idle ∧
    (owning .idle .waitForPoll).calls = ⟨.host, .waitForPoll⟩ :: [] ∧
    (owning .pollPending (.respondToPoll Snapshot.clear)).phase = .pollPending ∧
    (owning .pollPending (.respondToPoll Snapshot.clear)).calls =
      ⟨.host, .respondToPoll Snapshot.clear⟩ :: [] ∧
    (calling (.receiveByte 0)).calls = ⟨.host, .receiveByte 0⟩ :: [] ∧
    (calling (.sendBytes [7#8])).calls = ⟨.host, .sendBytes [7#8]⟩ :: [] ∧ [7#8] ≠ [] := by decide

/-- Every kind of receive at each of its three positions; the budget spent exactly and short by one
tick. -/
theorem witness_ReceiveTestsTheQueueBeforeTheClock :
    (∀ k ∈ [RecvFor.direct, .handshake, .waitForPoll, .discard 2, .discard 1],
      turn (atHost (.readTick 3 k)) = .host ∧
      secondThreadCalls (atHost (.readTick 3 k)) = false ∧
      (atHost (.readTick 3 k)).host = .readTick 3 k ∧
      (atHost (.testQueue 3 1 k)).host = .testQueue 3 1 k ∧ (atHost (.testQueue 3 1 k)).rxq = [] ∧
      ({ atHost (.testClock 3 1 k) with tick := 3 } : State).host = .testClock 3 1 k ∧
      ({ atHost (.testClock 3 1 k) with tick := 3 } : State).tick - 1 < 3) ∧
    ({ atHost (.testQueue 3 1 .direct) with rxq := [0x40#8, 0x03#8] } : State).rxq =
      0x40#8 :: [0x03#8] ∧
    3 ≤ ({ atHost (.testClock 3 1 .direct) with tick := 4 } : State).tick - 1 := by decide

theorem witness_ReceiveReturnsWithinAPairOfHostSteps :
    ({ atHost (.testQueue 3 1 (.discard 2)) with tick := 4, sched := [.host, .host] } : State).rxq = [] ∧
    3 ≤ ({ atHost (.testQueue 3 1 (.discard 2)) with tick := 4 } : State).tick - 1 ∧
    secondThreadCalls (atHost (.testQueue 3 1 (.discard 2))) = false ∧
    hostOnly 2 { atHost (.testQueue 3 1 (.discard 2)) with tick := 4, sched := [.host, .host] } := by
  decide

theorem witness_NoDataIsFailureRecoveryOrIgnored :
    ∀ k ∈ [RecvFor.handshake, .waitForPoll, .discard 2, .discard 1],
      turn (atHost (.testClock 0 0 k)) = .host ∧
      secondThreadCalls (atHost (.testClock 0 0 k)) = false ∧
      0 ≤ (atHost (.testClock 0 0 k)).tick - 0 ∧
      (atHost (.testClock 0 0 k)).host = .testClock 0 0 k := by decide

theorem witness_ReceivedByteIsDispatchedOrDropped :
    ∀ k ∈ [RecvFor.handshake, .waitForPoll, .discard 2, .discard 1],
      turn { atHost (.testQueue 0 0 k) with rxq := [0x03#8] } = .host ∧
      secondThreadCalls { atHost (.testQueue 0 0 k) with rxq := [0x03#8] } = false ∧
      ({ atHost (.testQueue 0 0 k) with rxq := [0x03#8] } : State).rxq = 0x03#8 :: [] ∧
      ({ atHost (.testQueue 0 0 k) with rxq := [0x03#8] } : State).host = .testQueue 0 0 k := by
  decide

/-- One cycle before the deadline, and at it. -/
theorem witness_ReplyDelayEndsInTheSend :
    turn (atHost (.delay 40 .report)) = .host ∧
    secondThreadCalls (atHost (.delay 40 .report)) = false ∧
    ({ atHost (.delay 40 .report) with now := 39 } : State).now < 40 ∧
    40 ≤ ({ atHost (.delay 40 .report) with now := 40 } : State).now ∧
    (atHost (.delay 40 (.reply [1#8] .direct))).host = .delay 40 (.reply [1#8] .direct) ∧
    (atHost (.delay 40 .discards)).host = .delay 40 .discards := by decide

/-- A payload that fills the queue exactly. -/
theorem witness_SendQueuesTheWholePayload :
    ({ atHost (.waitLine [1#8, 2#8, 3#8, 4#8] .direct) with
      sched := List.replicate 6 .host } : State).host = .waitLine [1#8, 2#8, 3#8, 4#8] .direct ∧
    [1#8, 2#8, 3#8, 4#8].length ≤ State.reset.cfg.qdepth ∧
    line (atHost (.waitLine [1#8, 2#8, 3#8, 4#8] .direct)) = true ∧
    secondThreadCalls (atHost (.waitLine [1#8, 2#8, 3#8, 4#8] .direct)) = false ∧
    6 = [1#8, 2#8, 3#8, 4#8].length + 2 ∧
    hostOnly 6 { atHost (.waitLine [1#8, 2#8, 3#8, 4#8] .direct) with
      sched := List.replicate 6 .host } := by decide

/-- A wire held low for ever; a low wire and a high one; the restart; a full queue; room for a byte that is not the last, and for the last. -/
theorem witness_SendWaitsForTheLineAndForRoom :
    turn (atHost (.waitLine [1#8] .direct)) = .host ∧
    secondThreadCalls (atHost (.waitLine [1#8] .direct)) = false ∧ [1#8][0]? = some 1#8 ∧
    ({ atHost (.waitLine [1#8] .direct) with
      cursor := .rdSample, console := [.driveLow], consoleRest := .hold .driveLow } : State).host =
        .waitLine [1#8] .direct ∧
    readMode Cursor.rdSample = true ∧ (atHost (.waitLine [1#8] .direct)).dir = .input ∧
    (∀ d ∈ [Drive.driveLow], d = .driveLow) ∧
    line { atHost (.waitLine [1#8] .direct) with console := [.driveLow] } = false ∧
    line (atHost (.waitLine [1#8] .direct)) = true ∧
    turn (atHost (.restartWrite [1#8] .direct)) = .host ∧
    (atHost (.restartWrite [1#8] .direct)).host = .restartWrite [1#8] .direct ∧
    State.reset.cfg.qdepth ≤
      ({ atHost (.push [1#8] 0 .direct) with txq := [0, 0, 0, 0] } : State).txq.length ∧
    ({ atHost (.push [1#8] 0 .direct) with txq := [0, 0, 0] } : State).txq.length <
      State.reset.cfg.qdepth ∧
    0 + 1 ≠ [1#8, 2#8].length ∧ 0 + 1 = [1#8].length := by decide

theorem witness_ErrorRecoveryRestartsAndReturnsToIdle :
    ∀ k ∈ [RecoverFor.handshake, .waitForPoll],
      ({ atHost (.delay 1300 (.recover k)) with now := 1300, sched := [.host, .host] } : State).host =
        .delay 1300 (.recover k) ∧
      1300 ≤ ({ atHost (.delay 1300 (.recover k)) with now := 1300 } : State).now ∧
      secondThreadCalls (atHost (.delay 1300 (.recover k))) = false ∧
      hostOnly 2 { atHost (.delay 1300 (.recover k)) with
        now := 1300, sched := [.host, .host] } := by decide

/-- A dispatch with the schedule of the whole reply, for a reply of `n - 3` bytes in phase `p`. -/
def replying (p : Phase) (b : Byte) (n : Nat) : State :=
  { dispatching p 401 b with
    cfg := { k := 10, qdepth := 10, ticksPerCycle := 1 }
    cursor := .rdWaitLow
    sched := .host :: (List.replicate (4 * 10) .engine ++ (List.replicate n .host ++ [])) }

/-- Each of the eight commands, the identity reply with 3 bytes and the calibration replies with 10. -/
theorem witness_CannedReplyIsQueuedAfterItsDelay :
    ∀ x ∈ [(Phase.handshaking, 0x00#8, idReply), (.handshaking, 0xFF#8, idReply),
        (.handshaking, 0x41#8, calReplyHs), (.handshaking, 0x42#8, calReplyHs),
        (.idle, 0x00#8, idReply), (.idle, 0xFF#8, idReply), (.idle, 0x41#8, calReplySs),
        (.idle, 0x42#8, calReplySs)],
      (replying x.1 x.2.1 (x.2.2.length + 3)).host = .dispatch x.2.1 ∧
      (replying x.1 x.2.1 (x.2.2.length + 3)).phase = x.1 ∧
      (replying x.1 x.2.1 (x.2.2.length + 3)).cursor = .rdWaitLow ∧
      (replying x.1 x.2.1 (x.2.2.length + 3)).ctr = 0 ∧
      (replying x.1 x.2.1 (x.2.2.length + 3)).dir = .input ∧
      (replying x.1 x.2.1 (x.2.2.length + 3)).console = [] ∧
      (replying x.1 x.2.1 (x.2.2.length + 3)).consoleRest = .hold .release ∧
      secondThreadCalls (replying x.1 x.2.1 (x.2.2.length + 3)) = false ∧
      x.2.2.length ≤ (replying x.1 x.2.1 (x.2.2.length + 3)).cfg.qdepth := by decide

end Sys2Proof.Tests
end

section
/-! Who writes the Line Direction (10_state.md R33). An engine turn leaves the direction
`engineDir` names; a host turn keeps `dir` unless it takes the caller's `init` (`TakesInit`). The
other lemmas say that every other operation, instruction and micro-state keeps `dir`. -/

open Sys2Proof Sys2Proof.Machine

namespace Sys2Proof.Proofs.LineDirection

/-! ## The composed operations leave `dir` as it is, `init` excepted -/

@[simp] theorem restartForRead_dir (s : State) : (restartForRead s).dir = s.dir := rfl
@[simp] theorem restartForWrite_dir (s : State) : (restartForWrite s).dir = s.dir := rfl
@[simp] theorem initTransport_dir (s : State) : (initTransport s).dir = .input := rfl
@[simp] theorem takeWord_dir (w : Word) (s : State) : (takeWord w s).dir = s.dir := rfl
@[simp] theorem beginReceive_dir (k : RecvFor) (s : State) : (beginReceive k s).dir = s.dir := rfl
@[simp] theorem beginSend_dir (p : List Byte) (k : SendFor) (s : State) :
    (beginSend p k s).dir = s.dir := rfl
@[simp] theorem beginReply_dir (p : List Byte) (k : SendFor) (s : State) :
    (beginReply p k s).dir = s.dir := rfl
@[simp] theorem returnSession_dir (s : State) : (returnSession s).dir = s.dir := rfl
@[simp] theorem listenAgain_dir (s : State) : (listenAgain s).dir = s.dir := rfl
@[simp] theorem enterErrorRecovery_dir (k : RecoverFor) (s : State) :
    (enterErrorRecovery k s).dir = s.dir := rfl

@[simp] theorem leaveErrorRecovery_dir (k : RecoverFor) (s : State) :
    (leaveErrorRecovery k s).dir = s.dir := by
  cases k <;> rfl

@[simp] theorem afterDiscard_dir (n : Nat) (s : State) : (afterDiscard n s).dir = s.dir := by
  unfold afterDiscard
  split <;> rfl

@[simp] theorem receivedByte_dir (b : Byte) (k : RecvFor) (s : State) :
    (receivedByte b k s).dir = s.dir := by
  cases k <;> simp [receivedByte]

@[simp] theorem receivedNothing_dir (k : RecvFor) (s : State) :
    (receivedNothing k s).dir = s.dir := by
  cases k <;> simp [receivedNothing]

@[simp] theorem sendReturns_dir (k : SendFor) (s : State) : (sendReturns k s).dir = s.dir := by
  cases k <;> rfl

@[simp] theorem delayReturns_dir (k : AfterDelay) (s : State) : (delayReturns k s).dir = s.dir := by
  cases k <;> rfl

@[simp] theorem stepTestQueue_dir (n t0 : Nat) (k : RecvFor) (s : State) :
    (stepTestQueue n t0 k s).dir = s.dir := by
  unfold stepTestQueue
  split <;> simp

@[simp] theorem stepTestClock_dir (n t0 : Nat) (k : RecvFor) (s : State) :
    (stepTestClock n t0 k s).dir = s.dir := by
  unfold stepTestClock
  split <;> simp

@[simp] theorem stepWaitLine_dir (p : List Byte) (k : SendFor) (s : State) :
    (stepWaitLine p k s).dir = s.dir := by
  unfold stepWaitLine
  split <;> simp

@[simp] theorem stepPush_dir (p : List Byte) (i : Nat) (k : SendFor) (s : State) :
    (stepPush p i k s).dir = s.dir := by
  unfold stepPush
  (repeat' split) <;> simp

/-! ## Instructions -/

/-- No instruction writes `dir`: a command changes the session, a word and a cell leave the line's
direction to the entry that came before them. -/
theorem exec_keeps_dir {i : Instr} {s t : State} (h : exec i s = .next t) : t.dir = s.dir := by
  cases i with
  | probeHs | resetHs | originHs | recalHs | probeSs | resetSs | originSs | recalSs =>
    cases h; exact beginReply_dir _ _ _
  | pollHs => cases h; exact beginSend_dir _ _ _
  | pollSs => cases h; exact returnWith_dir _ _
  | unkHs op | unkSs op => cases h; exact enterErrorRecovery_dir _ _
  | txwMore d g | txwLast d g => cases h; exact takeWord_dir _ _
  | cell0 | cell1 => cases h; exact openDataCell_dir _ _
  | cellStop => cases h; exact openStopCell_dir _

/-! ## The engine -/

/-- The direction an engine cycle leaves (R164, R171): the two entries write it, once `ctr` is 0. -/
def engineDir (s : State) : Direction :=
  if s.ctr = 0 ∧ s.cursor = .rdEntry then .input
  else if s.ctr = 0 ∧ s.cursor = .wrEntry then .output
  else s.dir

theorem engineDir_of_rdEntry {s : State} (hc : s.ctr = 0) (h : s.cursor = .rdEntry) :
    engineDir s = .input := by
  simp [engineDir, hc, h]

theorem engineDir_of_wrEntry {s : State} (hc : s.ctr = 0) (h : s.cursor = .wrEntry) :
    engineDir s = .output := by
  simp [engineDir, hc, h]

theorem engineDir_of_not_entry {s : State}
    (h : ¬ (s.ctr = 0 ∧ (s.cursor = .rdEntry ∨ s.cursor = .wrEntry))) : engineDir s = s.dir := by
  unfold engineDir
  split
  · simp_all
  · split <;> simp_all

/-! The micro-states that choose between two actions keep `dir` in both. -/

theorem rdWaitHigh_dir (v : Bool) (s : State) : (rdWaitHigh v s).dir = s.dir := by
  cases v <;> rfl

theorem rdWaitLow_dir (v : Bool) (s : State) : (rdWaitLow v s).dir = s.dir := by
  cases v <;> rfl

theorem rdSample_dir (v : Bool) (s : State) : (rdSample v s).dir = s.dir := by
  obtain ⟨-, h⟩ | ⟨-, -, h⟩ | ⟨-, -, h⟩ := rdSample_cases v s <;> simp [h]

theorem rdPushStall_dir (s : State) : (rdPushStall s).dir = s.dir := by
  unfold rdPushStall
  split <;> rfl

theorem wrPullNoWord_dir (s : State) : (wrPullNoWord s).dir = s.dir := by
  unfold wrPullNoWord
  split <;> rfl

theorem wrTest9_dir (s : State) : (wrTest9 s).dir = s.dir := by
  unfold wrTest9
  split <;> rfl

theorem wrTestStop_dir (s : State) : (wrTestStop s).dir = s.dir := by
  unfold wrTestStop
  split <;> rfl

theorem takeBit_dir {c : Cursor} {s t : State} (h : takeBit c s = .next t) : t.dir = s.dir := by
  obtain ⟨-, rfl⟩ := takeBit_eq_next.mp h
  exact shiftOut_dir _ _

/-- Every micro-state but the two entries keeps `dir`. -/
theorem microState_keeps_dir {s t : State} (hr : s.cursor ≠ .rdEntry) (hw : s.cursor ≠ .wrEntry)
    (h : microState s = .next t) : t.dir = s.dir := by
  cases hq : s.cursor <;> simp only [microState, hq] at h
  case rdEntry => exact absurd hq hr
  case wrEntry => exact absurd hq hw
  case rdWaitHigh => cases h; exact rdWaitHigh_dir _ _
  case rdWaitLow => cases h; exact rdWaitLow_dir _ _
  case rdSample => cases h; exact rdSample_dir _ _
  case rdPushStall => cases h; exact rdPushStall_dir _
  case wrPull => cases h; exact wrPullNoWord_dir _
  case wrTest9 => cases h; exact wrTest9_dir _
  case wrTestStop => cases h; exact wrTestStop_dir _
  case wrShift | wrShift2 => exact takeBit_dir h
  case unstarted | wrPull2 | wrLow | wrStopLow => cases h; rfl
  case wrHigh | wrVal | wrStopHigh | wrJmpFast | wrPadBit | wrPadFast | wrLoop | wrPadStop |
      wrToRead => cases h; rfl

/-- An engine turn that takes up an instruction away from the two entries. -/
theorem exec_dir_of_not_entry {i : Instr} {s u : State}
    (hq : s.cursor ≠ .rdEntry ∧ s.cursor ≠ .wrEntry) (he : exec i s = .next u) :
    (closeCycle s u).dir = engineDir s := by
  rw [closeCycle_dir, exec_keeps_dir he, engineDir_of_not_entry (by simp [hq])]

/-- A micro-state leaves the direction `engineDir` names. -/
theorem microState_dir {s t : State} (hc : s.ctr = 0) (h : microState s = .next t) :
    t.dir = engineDir s := by
  by_cases hr : s.cursor = .rdEntry
  · simp only [microState, hr] at h
    cases h
    exact (engineDir_of_rdEntry hc hr).symm
  · by_cases hw : s.cursor = .wrEntry
    · simp only [microState, hw] at h
      cases h
      exact (engineDir_of_wrEntry hc hw).symm
    · rw [engineDir_of_not_entry (by simp [hr, hw]), microState_keeps_dir hr hw h]

/-- An engine cycle of its own leaves the direction `engineDir` names: before `init` and in a delay
cycle it writes nothing (R54, R163). -/
theorem engineAct_dir {s t : State} (h : engineAct s = .next t) : t.dir = engineDir s := by
  obtain ⟨hu, he⟩ | ⟨-, hc, he⟩ | ⟨-, hc, he⟩ := engineAct_cases s <;> rw [he] at h
  · cases h
    rw [engineDir_of_not_entry (by simp [hu])]
  · cases h
    rw [engineDir_of_not_entry (by simp [hc])]
  · exact microState_dir hc h

/-! ## The host -/

/-- The host's own call of `init` stands next and the host is free to take it. -/
def TakesInit (s : State) : Prop :=
  s.host = .outside ∧ s.calls.head? = some ⟨.host, .init⟩

/-- Of the operations a caller invokes only `init` writes `dir` (R361). -/
theorem invoke_dir {op : HostOp} {s t : State} (h : invoke op s = .next t) :
    (op = .init → t.dir = .input) ∧ (op ≠ .init → t.dir = s.dir) := by
  obtain ⟨rfl, -, rfl⟩ | ⟨-, rfl, rfl⟩ | ⟨-, rfl, rfl⟩ | ⟨-, n, rfl, rfl⟩ | ⟨-, p, -, rfl, rfl⟩ |
    ⟨-, n, p, rfl, rfl⟩ | ⟨-, rfl, rfl⟩ | ⟨-, p, rfl, rfl⟩ := invoke_next_cases h <;> simp

/-- A call that is taken is an invocation: before `init` any other call is refused (R363). -/
theorem invoke_of_takeCall {op : HostOp} {s t : State} (h : takeCall op s = .next t) :
    invoke op s = .next t := by
  unfold takeCall at h
  split at h
  · exact h
  · cases h

/-- A host step away from the caller's calls keeps `dir`. -/
theorem hostAdvance_keeps_dir {s t : State} (ho : s.host ≠ .outside)
    (h : hostAdvance s = .next t) : t.dir = s.dir := by
  cases hh : s.host <;> simp only [hostAdvance, hh] at h
  case outside => exact absurd hh ho
  case readTick => cases h; exact hostAt_dir _ _
  case testQueue => cases h; exact stepTestQueue_dir _ _ _ _
  case testClock => cases h; exact stepTestClock_dir _ _ _ _
  case dispatch => cases h; rfl
  case delay => cases h; split <;> simp
  case waitLine => cases h; exact stepWaitLine_dir _ _ _
  case restartWrite => cases h; exact hostAt_dir _ _
  case push => cases h; exact stepPush_dir _ _ _ _
  case recoverRestart => cases h; exact leaveErrorRecovery_dir _ _

/-- Outside every operation a host step takes the host's own next call, or waits. -/
theorem hostAct_outside_cases {s t : State} (ho : s.host = .outside) (h : hostAct s = .next t) :
    (s.calls = [] ∧ t = s) ∨
    (∃ op rest, s.calls = ⟨.host, op⟩ :: rest ∧ invoke op { s with calls := rest } = .next t) := by
  obtain ⟨h2, ha⟩ := hostAct_eq_next.mp h
  cases hc : s.calls with
  | nil =>
    simp only [hostAdvance, ho, hc] at ha
    cases ha
    exact .inl ⟨rfl, rfl⟩
  | cons c rest =>
    obtain ⟨th, op⟩ := c
    have hth : th = .host := by cases th <;> simp_all [secondThreadCalls]
    simp only [hostAdvance, ho, hc] at ha
    exact .inr ⟨op, rest, by rw [hth], invoke_of_takeCall ha⟩

/-- A host step of its own writes `dir` only when it takes `init`, which leaves `Input`. -/
theorem hostAct_dir {s t : State} (h : hostAct s = .next t) :
    (TakesInit s → t.dir = .input) ∧ (¬ TakesInit s → t.dir = s.dir) := by
  by_cases ho : s.host = .outside
  · obtain ⟨hc, rfl⟩ | ⟨op, rest, hc, hi⟩ := hostAct_outside_cases ho h
    · simp [TakesInit, hc]
    · simpa [TakesInit, ho, hc] using invoke_dir hi
  · have ht : ¬ TakesInit s := fun hi => ho hi.1
    exact ⟨fun hi => absurd hi ht, fun _ => hostAdvance_keeps_dir ho (hostAct_eq_next.mp h).2⟩

/-! ## One step -/

/-- An engine turn leaves the direction `engineDir` names, whether or not it takes up an instruction:
neither entry takes one up. -/
theorem step_engine_dir {s t : State} (h : step s = .next t) (ht : turn s = .engine) :
    t.dir = engineDir s := by
  obtain ⟨hh, -⟩ | ⟨hh, -⟩ | ⟨-, -, hq, w, rest, -, u, he, rfl⟩ | ⟨-, -, hq, u, he, rfl⟩ |
    ⟨-, -, hq, u, he, rfl⟩ | ⟨-, -, u, he, rfl⟩ := step_next_cases h
  · simp [ht] at hh
  · simp [ht] at hh
  · exact exec_dir_of_not_entry (by obtain ⟨hq, -⟩ | hq := hq <;> simp [hq]) he
  · exact exec_dir_of_not_entry (by simp [hq]) he
  · exact exec_dir_of_not_entry (by simp [hq]) he
  · rw [closeCycle_dir, engineAct_dir he]

/-- A host turn writes `dir` only when it takes `init`, which leaves `Input`. -/
theorem step_host_dir {s t : State} (h : step s = .next t) (ht : turn s = .host) :
    (TakesInit s → t.dir = .input) ∧ (¬ TakesInit s → t.dir = s.dir) := by
  obtain ⟨-, b, hb, hx⟩ | ⟨-, -, u, he, rfl⟩ | ⟨hh, -⟩ | ⟨hh, -⟩ | ⟨hh, -⟩ | ⟨hh, -⟩ :=
    step_next_cases h
  · have hd : t.dir = s.dir := by
      obtain ⟨-, u, he, rfl⟩ | ⟨-, u, he, rfl⟩ := hx <;>
        rw [closeHostTurn_dir, exec_keeps_dir he]
    simp [TakesInit, hb, hd]
  · simpa using hostAct_dir he
  all_goals simp [ht] at hh

/-- Settles O39: each agent's turn is read off `step_engine_dir` and `step_host_dir`. -/
theorem directionIsWrittenOnlyByEntriesAndInit :
    Obligations.DirectionIsWrittenOnlyByEntriesAndInit := by
  intro s t h
  refine ⟨fun hne => ?_, fun ht hc hq => ?_, fun ht hc hq => ?_, fun ht ho hi => ?_⟩
  · cases ht : turn s with
    | engine =>
      refine .inl ⟨rfl, ?_⟩
      by_contra hn
      exact hne ((step_engine_dir h ht).trans (engineDir_of_not_entry hn))
    | host =>
      refine .inr ⟨rfl, ?_⟩
      by_contra hn
      exact hne ((step_host_dir h ht).2 hn)
  · exact (step_engine_dir h ht).trans (engineDir_of_rdEntry hc hq)
  · exact (step_engine_dir h ht).trans (engineDir_of_wrEntry hc hq)
  · exact (step_host_dir h ht).1 ⟨ho, hi⟩

end Sys2Proof.Proofs.LineDirection
end

section
/-! Half duplex (20_memory.md R101). An engine cycle in write mode leaves the receive side as it is,
one in read mode the transmit side. Each side is one projection of the state; its equations for the
engine's actions are what the cases of `microState` and `exec` cite. -/

open Sys2Proof Sys2Proof.Machine

namespace Sys2Proof.Proofs.HalfDuplex

/-! ## The two sides of the engine -/

/-- What sampling writes: the partial byte, its count and the receive queue (R167 to R169). -/
def receiveSide (s : State) : Byte × Nat × List Byte := (s.isr, s.isrCnt, s.rxq)

/-- What driving reads and writes: the pin's latch, the output window, the bit in flight and the
transmit queue (R172 to R189). -/
def transmitSide (s : State) : Bool × Word × Nat × Bool × List Word :=
  (s.pinOut, s.osr, s.osrCnt, s.xbit, s.txq)

theorem receiveSide_eq_iff {s t : State} :
    receiveSide t = receiveSide s ↔ t.isr = s.isr ∧ t.isrCnt = s.isrCnt ∧ t.rxq = s.rxq := by
  simp [receiveSide]

theorem transmitSide_eq_iff {s t : State} :
    transmitSide t = transmitSide s ↔
      t.pinOut = s.pinOut ∧ t.osr = s.osr ∧ t.osrCnt = s.osrCnt ∧ t.xbit = s.xbit ∧
        t.txq = s.txq := by
  simp [transmitSide]

@[simp] theorem closeCycle_receiveSide (s t : State) :
    receiveSide (closeCycle s t) = receiveSide t := rfl

@[simp] theorem closeCycle_transmitSide (s t : State) :
    transmitSide (closeCycle s t) = transmitSide t := rfl

/-! ## The receive side in write mode -/

/-- No instruction samples: a command changes the session, a word the window, a cell the wire. -/
theorem exec_keeps_receiveSide {i : Instr} {s t : State} (h : exec i s = .next t) :
    receiveSide t = receiveSide s := by
  cases i <;> cases h <;> rfl

theorem takeBit_keeps_receiveSide {c : Cursor} {s t : State} (h : takeBit c s = .next t) :
    receiveSide t = receiveSide s := by
  obtain ⟨-, rfl⟩ := takeBit_eq_next.mp h
  rfl

/-! The write-mode micro-states that choose between two actions keep the receive side in both. -/

theorem wrPullNoWord_receiveSide (s : State) : receiveSide (wrPullNoWord s) = receiveSide s := by
  unfold wrPullNoWord
  split <;> rfl

theorem wrTest9_receiveSide (s : State) : receiveSide (wrTest9 s) = receiveSide s := by
  unfold wrTest9
  split <;> rfl

theorem wrTestStop_receiveSide (s : State) : receiveSide (wrTestStop s) = receiveSide s := by
  unfold wrTestStop
  split <;> rfl

theorem microState_keeps_receiveSide {s t : State} (hw : writeMode s.cursor = true)
    (h : microState s = .next t) : receiveSide t = receiveSide s := by
  cases hq : s.cursor <;> simp only [microState, hq] at h hw
  case unstarted | rdEntry | rdWaitHigh | rdWaitLow | rdSample | rdPushStall =>
    simp [writeMode, readMode] at hw
  case wrPull => cases h; exact wrPullNoWord_receiveSide _
  case wrTest9 => cases h; exact wrTest9_receiveSide _
  case wrTestStop => cases h; exact wrTestStop_receiveSide _
  case wrShift | wrShift2 => exact takeBit_keeps_receiveSide h
  all_goals cases h; rfl

theorem engineAct_keeps_receiveSide {s t : State} (hw : writeMode s.cursor = true)
    (h : engineAct s = .next t) : receiveSide t = receiveSide s := by
  obtain ⟨-, he⟩ | ⟨-, -, he⟩ | ⟨-, -, he⟩ := engineAct_cases s <;> rw [he] at h
  · cases h; rfl
  · cases h; rfl
  · exact microState_keeps_receiveSide hw h

/-- An engine turn in write mode samples nothing, whether it takes up an instruction or acts in its
micro-state. -/
theorem step_engine_keeps_receiveSide {s t : State} (h : step s = .next t) (ht : turn s = .engine)
    (hw : writeMode s.cursor = true) : receiveSide t = receiveSide s := by
  obtain ⟨hh, -⟩ | ⟨hh, -⟩ | ⟨-, -, -, w, rest, -, u, he, rfl⟩ | ⟨-, -, -, u, he, rfl⟩ |
    ⟨-, -, -, u, he, rfl⟩ | ⟨-, -, u, he, rfl⟩ := step_next_cases h
  · simp [ht] at hh
  · simp [ht] at hh
  · rw [closeCycle_receiveSide, exec_keeps_receiveSide he]
  · rw [closeCycle_receiveSide, exec_keeps_receiveSide he]
  · rw [closeCycle_receiveSide, exec_keeps_receiveSide he]
  · rw [closeCycle_receiveSide, engineAct_keeps_receiveSide hw he]

/-! ## The transmit side in read mode -/

/-! The read-mode micro-states that choose between two actions keep the transmit side in both. -/

theorem rdWaitHigh_transmitSide (v : Bool) (s : State) :
    transmitSide (rdWaitHigh v s) = transmitSide s := by
  cases v <;> rfl

theorem rdWaitLow_transmitSide (v : Bool) (s : State) :
    transmitSide (rdWaitLow v s) = transmitSide s := by
  cases v <;> rfl

theorem rdSample_transmitSide (v : Bool) (s : State) :
    transmitSide (rdSample v s) = transmitSide s := by
  obtain ⟨-, h⟩ | ⟨-, -, h⟩ | ⟨-, -, h⟩ := rdSample_cases v s <;> rw [h] <;> rfl

theorem rdPushStall_transmitSide (s : State) : transmitSide (rdPushStall s) = transmitSide s := by
  unfold rdPushStall
  split <;> rfl

theorem microState_keeps_transmitSide {s t : State} (hr : readMode s.cursor = true)
    (h : microState s = .next t) : transmitSide t = transmitSide s := by
  cases hq : s.cursor <;> simp only [microState, hq] at h hr
  case rdEntry => cases h; rfl
  case rdWaitHigh => cases h; exact rdWaitHigh_transmitSide _ _
  case rdWaitLow => cases h; exact rdWaitLow_transmitSide _ _
  case rdSample => cases h; exact rdSample_transmitSide _ _
  case rdPushStall => cases h; exact rdPushStall_transmitSide _
  all_goals cases hr

theorem engineAct_keeps_transmitSide {s t : State} (hr : readMode s.cursor = true)
    (h : engineAct s = .next t) : transmitSide t = transmitSide s := by
  obtain ⟨-, he⟩ | ⟨-, -, he⟩ | ⟨-, -, he⟩ := engineAct_cases s <;> rw [he] at h
  · cases h; rfl
  · cases h; rfl
  · exact microState_keeps_transmitSide hr h

/-- Read mode takes up no instruction: words and cells are taken up in write mode only. -/
theorem engineFetch_of_readMode {s : State} (hr : readMode s.cursor = true) :
    engineFetch s = .own := by
  apply engineFetch_of_cursor <;> intro hq <;> simp [hq, readMode] at hr

/-- An engine turn in read mode takes nothing from the transmit side and leaves the pin's latch. -/
theorem step_engine_keeps_transmitSide {s t : State} (h : step s = .next t)
    (ht : turn s = .engine) (hr : readMode s.cursor = true) : transmitSide t = transmitSide s := by
  rw [step_engine_own ht (engineFetch_of_readMode hr), onNext_eq_next] at h
  obtain ⟨u, he, rfl⟩ := h
  rw [closeCycle_transmitSide, engineAct_keeps_transmitSide hr he]

/-! ## The wire in read mode -/

/-- Past `RD_ENTRY` the invariant gives `dir = Input` (R53), so the core does not drive the wire. -/
theorem not_driving_of_readMode {s : State} (hi : EngineInv s) (hr : readMode s.cursor = true)
    (hq : s.cursor ≠ .rdEntry) : driving s = false := by
  have hstarted : s.cursor ≠ .unstarted := by
    intro hu
    simp [hu, readMode] at hr
  obtain ⟨-, -, -, -, -, -, -, -, -, -, -, -, hdir, -⟩ := hi.2 hstarted
  simp [driving, hdir hr hq]

/-- Settles O44: each mode keeps the other mode's side, and the direction is the invariant's. -/
theorem engineNeverSamplesAndDrivesInOneMode :
    Obligations.EngineNeverSamplesAndDrivesInOneMode := by
  intro s t h ht
  exact ⟨fun hw => receiveSide_eq_iff.mp (step_engine_keeps_receiveSide h ht hw),
    fun hr => transmitSide_eq_iff.mp (step_engine_keeps_transmitSide h ht hr),
    not_driving_of_readMode⟩

end Sys2Proof.Proofs.HalfDuplex
end

section
/-! The classification of command bytes (30_encoding.md R123). `classify_cases` says once which tag
each byte has; the rows of the two phases are read off the tag. -/

open Sys2Proof Sys2Proof.Machine

namespace Sys2Proof.Proofs.CommandBytes

/-- A byte is one of the five values of R122 and has that value's tag, or it is none of them and is
Unknown. -/
theorem classify_cases (b : Byte) :
    (b = 0x00#8 ∧ classify b = .probe) ∨ (b = 0xFF#8 ∧ classify b = .reset) ∨
    (b = 0x41#8 ∧ classify b = .origin) ∨ (b = 0x42#8 ∧ classify b = .recalibrate) ∨
    (b = 0x40#8 ∧ classify b = .poll) ∨
    ((b ≠ 0x00#8 ∧ b ≠ 0xFF#8 ∧ b ≠ 0x41#8 ∧ b ≠ 0x42#8 ∧ b ≠ 0x40#8) ∧
      classify b = .unknown) := by
  unfold classify
  split_ifs <;> simp_all

theorem decodeHandshaking_of_unknown {b : Byte} (h : classify b = .unknown) :
    decodeHandshaking b = .unkHs b := by
  simp [decodeHandshaking, h]

theorem decodeIdle_of_unknown {b : Byte} (h : classify b = .unknown) :
    decodeIdle b = .unkSs b := by
  simp [decodeIdle, h]

/-- Settles O1: the five recognised bytes are evaluated, every other byte is Unknown. -/
theorem commandBytesClassifyByExactMatch : Obligations.CommandBytesClassifyByExactMatch := by
  intro b
  obtain ⟨rfl, -⟩ | ⟨rfl, -⟩ | ⟨rfl, -⟩ | ⟨rfl, -⟩ | ⟨rfl, -⟩ | ⟨⟨h1, h2, h3, h4, h5⟩, hc⟩ :=
    classify_cases b
  · decide
  · decide
  · decide
  · decide
  · decide
  · simp [decode_handshaking, decode_idle, decodeHandshaking_of_unknown hc,
      decodeIdle_of_unknown hc, hc, h1, h2, h3, h4, h5]

end Sys2Proof.Proofs.CommandBytes
end

section
/-! The poll report (30_encoding.md R135 to R138). "decoding known bit positions recovers each
original boolean/numeric field exactly": `snapshotOf` is that decoding. It undoes `report` on every
snapshot, and `report` undoes it on every list whose fixed bits are as R135 and R136 have them. -/

open Sys2Proof Sys2Proof.Machine

namespace Sys2Proof.Proofs.PollReport

/-! ## The bits of the two button bytes -/

theorem bit_getElem (v : Bool) {i : Nat} (hi : i < 8) : (bit v)[i] = (decide (i = 0) && v) := by
  cases v <;> simp [bit]

/-- The bits of report byte 0 (R135). -/
theorem buttons1_getElem (p : Snapshot) {i : Nat} (hi : i < 8) :
    (buttons1 p)[i] = [p.a, p.b, p.x, p.y, p.start, false, false, false].getD i false := by
  interval_cases i <;> simp [buttons1, bit_getElem]

/-- The bits of report byte 1 (R136). -/
theorem buttons2_getElem (p : Snapshot) {i : Nat} (hi : i < 8) :
    (buttons2 p)[i] =
      [p.dpadLeft, p.dpadRight, p.dpadDown, p.dpadUp, p.z, p.rDigital, p.lDigital, true].getD i
        false := by
  interval_cases i <;> simp [buttons2, bit_getElem]

/-- `r[0][7:5] = 0`, bit by bit. -/
theorem extractLsb'_5_3_eq_zero_iff (r : Byte) :
    r.extractLsb' 5 3 = 0#3 ↔ r[5] = false ∧ r[6] = false ∧ r[7] = false := by
  rw [BitVec.eq_of_getElem_eq_iff]
  constructor
  · intro h
    exact ⟨by simpa using h 0 (by omega), by simpa using h 1 (by omega),
      by simpa using h 2 (by omega)⟩
  · rintro ⟨h5, h6, h7⟩ i hi
    interval_cases i <;> simp [h5, h6, h7]

/-! ## The decoding of a report -/

/-- The snapshot a report is decoded to; a list that is not of eight bytes is no report. -/
def snapshotOf : List Byte → Snapshot
  | [r0, r1, r2, r3, r4, r5, r6, r7] =>
    { a := r0[0], b := r0[1], x := r0[2], y := r0[3], start := r0[4],
      dpadLeft := r1[0], dpadRight := r1[1], dpadDown := r1[2], dpadUp := r1[3], z := r1[4],
      rDigital := r1[5], lDigital := r1[6],
      stickX := r2, stickY := r3, cstickX := r4, cstickY := r5, lAnalog := r6, rAnalog := r7 }
  | _ => Snapshot.clear

theorem snapshotOf_report (p : Snapshot) : snapshotOf (report p) = p := by
  simp [snapshotOf, report, buttons1_getElem, buttons2_getElem]

theorem report_injective : Function.Injective report :=
  Function.LeftInverse.injective snapshotOf_report

section
variable {r0 r1 r2 r3 r4 r5 r6 r7 : Byte}

theorem buttons1_snapshotOf (h : r0.extractLsb' 5 3 = 0#3) :
    buttons1 (snapshotOf [r0, r1, r2, r3, r4, r5, r6, r7]) = r0 := by
  obtain ⟨h5, h6, h7⟩ := (extractLsb'_5_3_eq_zero_iff r0).mp h
  apply BitVec.eq_of_getElem_eq
  intro i hi
  rw [buttons1_getElem _ hi]
  interval_cases i <;> simp [snapshotOf, h5, h6, h7]

theorem buttons2_snapshotOf (h : r1.getLsbD 7 = true) :
    buttons2 (snapshotOf [r0, r1, r2, r3, r4, r5, r6, r7]) = r1 := by
  apply BitVec.eq_of_getElem_eq
  intro i hi
  rw [buttons2_getElem _ hi]
  interval_cases i <;> simp [snapshotOf, h]

theorem report_snapshotOf (h0 : r0.extractLsb' 5 3 = 0#3) (h1 : r1.getLsbD 7 = true) :
    report (snapshotOf [r0, r1, r2, r3, r4, r5, r6, r7]) = [r0, r1, r2, r3, r4, r5, r6, r7] := by
  rw [report, buttons1_snapshotOf h0, buttons2_snapshotOf h1, snapshotOf]

end

/-! ## The fixed bits -/

theorem buttons1_fixed_bits (p : Snapshot) : (buttons1 p).extractLsb' 5 3 = 0#3 := by
  simp [extractLsb'_5_3_eq_zero_iff, buttons1_getElem]

theorem buttons2_fixed_bit (p : Snapshot) : (buttons2 p).getLsbD 7 = true := by
  simp [buttons2_getElem]

/-- Settles O7: `snapshotOf` is a left inverse of `report`, and a right inverse on the lists with the
fixed bits. -/
theorem reportIsInjectiveWithExactImage : Obligations.ReportIsInjectiveWithExactImage := by
  refine ⟨fun p q h => report_injective h, fun l => ⟨?_, ?_⟩⟩
  · rintro ⟨p, rfl⟩
    exact ⟨_, _, _, _, _, _, _, _, rfl, buttons1_fixed_bits p, buttons2_fixed_bit p⟩
  · rintro ⟨r0, r1, r2, r3, r4, r5, r6, r7, rfl, h0, h1⟩
    exact ⟨_, report_snapshotOf h0 h1⟩

end Sys2Proof.Proofs.PollReport
end

section
/-! Sampling (40_signal_engine.md R167, R168). A turn at `RD_SAMPLE` is the micro-state's action on the
level of the wire (`step_of_rdSample`), and `rdSample_cases` says what that action can be. -/

open Sys2Proof Sys2Proof.Machine

namespace Sys2Proof.Proofs.Sampling

/-- An engine turn in read mode with no delay left is the action of its micro-state: read mode takes up
no instruction. -/
theorem step_of_readMode {s : State} (ht : turn s = .engine) (hc : s.ctr = 0)
    (hr : readMode s.cursor = true) : step s = onNext (closeCycle s) (microState s) := by
  have hstarted : s.cursor ≠ .unstarted := by
    intro hu
    simp [hu, readMode] at hr
  rw [step_engine_own ht (HalfDuplex.engineFetch_of_readMode hr), engineAct_of_started hstarted hc]

theorem step_of_rdSample {s : State} (ht : turn s = .engine) (hc : s.ctr = 0)
    (hq : s.cursor = .rdSample) : step s = .next (closeCycle s (rdSample (line s) s)) := by
  rw [step_of_readMode ht hc (by simp [hq, readMode])]
  simp [microState, hq]

/-- Settles O22: the clauses are the three cases of `rdSample_cases`; in each case the count and the
room in RXQ exclude the other two clauses. -/
theorem sampleShiftsInAndTheEighthBitDelivers :
    Obligations.SampleShiftsInAndTheEighthBitDelivers := by
  rintro s _ ht hc hq rfl
  rw [step_of_rdSample ht hc hq]
  obtain ⟨hmore, he⟩ | ⟨heighth, hroom, he⟩ | ⟨heighth, hfull, he⟩ := rdSample_cases (line s) s <;>
    rw [he]
  · exact ⟨fun _ => rfl, fun h7 => absurd h7 hmore, fun h7 => absurd h7 hmore⟩
  · exact ⟨fun hne => absurd heighth hne, fun _ _ => rfl,
      fun _ hle => by simp [rxFull_iff.mpr hle] at hroom⟩
  · have hle : s.cfg.qdepth ≤ s.rxq.length := rxFull_iff.mp hfull
    exact ⟨fun hne => absurd heighth hne, fun _ hlt => absurd hlt (by omega),
      fun _ _ => by simp [shiftIn, bit, heighth]⟩

end Sys2Proof.Proofs.Sampling
end

section
/-! The encodings (30_encoding.md R122, R126 to R129): a byte is read by its tag, a word by its
three fields, a cell by its four slices, and each reading keeps every bit. -/

open Sys2Proof Sys2Proof.Machine

namespace Sys2Proof.Proofs.Encodings

/-! ## Command bytes -/

/-- The unrecognised bytes are those whose tag is Unknown (R122, R123). -/
theorem unrecognised_iff {b : Byte} :
    (!recognisedCommands.contains b) = true ↔ classify b = .unknown := by
  obtain ⟨rfl, -⟩ | ⟨rfl, -⟩ | ⟨rfl, -⟩ | ⟨rfl, -⟩ | ⟨rfl, -⟩ | ⟨⟨h1, h2, h3, h4, h5⟩, hc⟩ :=
    CommandBytes.classify_cases b
  · decide
  · decide
  · decide
  · decide
  · decide
  · simp [recognisedCommands, hc, h1, h2, h3, h4, h5]

/-- What stands in a place and encodes to the object read there. -/
def ReadFrom (sp : Space) (x : Code) (i : Instr) : Prop :=
  i.wellFormed = true ∧ i.space = sp ∧ encode i = x

theorem decodeHandshaking_readFrom (b : Byte) :
    ReadFrom .handshaking (.cmd8 b) (decodeHandshaking b) := by
  obtain ⟨rfl, -⟩ | ⟨rfl, -⟩ | ⟨rfl, -⟩ | ⟨rfl, -⟩ | ⟨rfl, -⟩ | ⟨-, hc⟩ :=
    CommandBytes.classify_cases b
  iterate 5 exact ⟨by decide, by decide, by decide⟩
  rw [CommandBytes.decodeHandshaking_of_unknown hc]
  exact ⟨unrecognised_iff.mpr hc, rfl, rfl⟩

theorem decodeIdle_readFrom (b : Byte) : ReadFrom .idle (.cmd8 b) (decodeIdle b) := by
  obtain ⟨rfl, -⟩ | ⟨rfl, -⟩ | ⟨rfl, -⟩ | ⟨rfl, -⟩ | ⟨rfl, -⟩ | ⟨-, hc⟩ :=
    CommandBytes.classify_cases b
  iterate 5 exact ⟨by decide, by decide, by decide⟩
  rw [CommandBytes.decodeIdle_of_unknown hc]
  exact ⟨unrecognised_iff.mpr hc, rfl, rfl⟩

/-! ## Engine input words -/

/-- The flag of a packed word selects its row (R128). -/
theorem decodeTxw_packTxw (d : Byte) (l : BitVec 1) (g : BitVec 23) :
    decodeTxw (packTxw d l g) = if l.getLsbD 0 then .txwLast d g else .txwMore d g := by
  simp [decodeTxw]

theorem decodeTxw_readFrom (w : Word) : ReadFrom .transmit (.txw32 w) (decodeTxw w) := by
  cases hl : txwLastFlag w with
  | true =>
    have hw : packTxw (txwData w) 1#1 (txwIgnored w) = w :=
      packTxw_fields w 1#1 (by rw [← txwLastFlag, hl]; rfl)
    simp [ReadFrom, decodeTxw, hl, Instr.wellFormed, Instr.space, encode, hw]
  | false =>
    have hw : packTxw (txwData w) 0#1 (txwIgnored w) = w :=
      packTxw_fields w 0#1 (by rw [← txwLastFlag, hl]; rfl)
    simp [ReadFrom, decodeTxw, hl, Instr.wellFormed, Instr.space, encode, hw]

/-- R129 assembles the fields R128 takes apart, with the ignored bits 0. -/
theorem txWord_eq_packTxw (b : Byte) (last : Bool) :
    txWord b last = packTxw b (if last then 1#1 else 0#1) 0#23 := by
  apply BitVec.eq_of_getLsbD_eq
  intro i hi
  rw [packTxw_getLsbD]
  cases last <;> interval_cases i <;> simp [txWord]

/-! ## Cells -/

theorem decodeDataCell_readFrom {p : BitVec 4} {i : Instr} (h : decodeDataCell p = .ok i) :
    ReadFrom .dataCell (.cell p) i := by
  unfold decodeDataCell at h
  split_ifs at h with h0 h1
  · cases h; exact ⟨rfl, rfl, by rw [h0]; rfl⟩
  · cases h; exact ⟨rfl, rfl, by rw [h1]; rfl⟩

theorem decodeStopCell_readFrom {p : BitVec 4} {i : Instr} (h : decodeStopCell p = .ok i) :
    ReadFrom .stopCell (.cell p) i := by
  unfold decodeStopCell at h
  split_ifs at h with h0
  cases h
  exact ⟨rfl, rfl, by rw [h0]; rfl⟩

/-! ## The decoder and the encoder -/

/-- Settles O3: an Unknown byte keeps its tag, a word its fields; every other row is one fixed
object. -/
theorem decodingAnEncodedInstructionGivesItBack :
    Obligations.DecodingAnEncodedInstructionGivesItBack := by
  intro i hi
  cases i with
  | unkHs op =>
    exact congrArg Decoded.ok (CommandBytes.decodeHandshaking_of_unknown (unrecognised_iff.mp hi))
  | unkSs op =>
    exact congrArg Decoded.ok (CommandBytes.decodeIdle_of_unknown (unrecognised_iff.mp hi))
  | txwMore d g => exact congrArg Decoded.ok (decodeTxw_packTxw d 0#1 g)
  | txwLast d g => exact congrArg Decoded.ok (decodeTxw_packTxw d 1#1 g)
  | probeHs | resetHs | originHs | recalHs | pollHs => decide
  | probeSs | resetSs | originSs | recalSs | pollSs => decide
  | cell0 | cell1 | cellStop => decide

/-- Settles O4: each place reads objects of its own format only, and each of the five readers keeps
the bits. -/
theorem encodingADecodedObjectGivesItsBitsBack :
    Obligations.EncodingADecodedObjectGivesItsBitsBack := by
  intro sp x i h
  cases sp <;> cases x <;> simp only [decode, Decoded.ok.injEq, reduceCtorEq] at h
  case handshaking.cmd8 b => subst h; exact decodeHandshaking_readFrom b
  case idle.cmd8 b => subst h; exact decodeIdle_readFrom b
  case transmit.txw32 w => subst h; exact decodeTxw_readFrom w
  case dataCell.cell p => exact decodeDataCell_readFrom h
  case stopCell.cell p => exact decodeStopCell_readFrom h

/-- Settles O5: the assembled word is a packed one. -/
theorem assembledWordCarriesItsByteAndFlag : Obligations.AssembledWordCarriesItsByteAndFlag := by
  intro b last
  rw [decode_transmit, txWord_eq_packTxw, decodeTxw_packTxw]
  cases last <;> rfl

/-- Settles O2: each of the eight objects is evaluated. -/
theorem sampleWordsDecodeToTheirRows : Obligations.SampleWordsDecodeToTheirRows := by
  unfold Obligations.SampleWordsDecodeToTheirRows
  decide

/-- Settles O6: the bits of the two button bytes, position by position. -/
theorem reportPlacesEveryButtonAndAxis : Obligations.ReportPlacesEveryButtonAndAxis := by
  intro p
  refine ⟨buttons1 p, buttons2 p, rfl, ?_⟩
  simp [BitVec.getLsbD_eq_getElem, PollReport.buttons1_getElem, PollReport.buttons2_getElem]

end Sys2Proof.Proofs.Encodings
end

section
/-! What a turn does (00_scope.md R22). A step is the move of the agent whose turn it is, closed
(`step_of_host`, `step_of_engine`). `EngineActs` lists once everything an engine cycle can do: its
constructors are the equations of the micro-states (`EngineActs.move`), and it leaves out nothing
but the shift of a spent window (`engineMove_total`). -/

open Sys2Proof Sys2Proof.Machine

namespace Sys2Proof.Proofs.Moves

/-! ## One move of an agent -/

/-- The outcome of what an agent has taken up: its own action, or the decoded instruction's. -/
def perform (own : StepOutcome) (s : State) : Fetched → StepOutcome
  | .own => own
  | .nowhere => .refused .wrongPhase
  | .object sp x =>
    match decode sp x with
    | .ok i => exec i s
    | .rejected e => .refused (.undecodable e)

/-- A host turn before its close. -/
def hostMove (s : State) : StepOutcome := perform (hostAct s) s (hostFetch s)

/-- An engine cycle before its close. -/
def engineMove (s : State) : StepOutcome := perform (engineAct s) s (engineFetch s)

theorem step_eq_perform (s : State) :
    step s = onNext (closeTurn (turn s) s) (perform (ownAct (turn s) s) s (fetch s)) := by
  unfold step perform
  cases fetch s with
  | own => rfl
  | nowhere => rfl
  | object sp x => cases hd : decode sp x <;> simp [hd]

theorem step_of_host {s : State} (ht : turn s = .host) :
    step s = onNext closeHostTurn (hostMove s) := by
  rw [step_eq_perform, fetch_host ht, ht]
  rfl

theorem step_of_engine {s : State} (ht : turn s = .engine) :
    step s = onNext (closeCycle s) (engineMove s) := by
  rw [step_eq_perform, fetch_engine ht, ht]
  rfl

/-! ## The host's move -/

/-- Away from a dispatch the host makes a step of its own. -/
theorem hostMove_of_not_dispatch {s : State} (hd : ∀ b, s.host ≠ .dispatch b) :
    hostMove s = hostAct s := by
  rw [hostMove, hostFetch_of_not_dispatch hd, perform]

/-- With no second thread calling it is the step of its position (R221). -/
theorem hostMove_of_position {s : State} (hd : ∀ b, s.host ≠ .dispatch b)
    (h2 : secondThreadCalls s = false) : hostMove s = hostAdvance s := by
  simp [hostMove_of_not_dispatch hd, hostAct, h2]

/-- A dispatch is its command's meaning in the two phases that decode commands (R125). -/
theorem hostMove_of_dispatch {s : State} {b : Byte} (hb : s.host = .dispatch b) :
    (s.phase = .handshaking → hostMove s = exec (decodeHandshaking b) s) ∧
    (s.phase = .idle → hostMove s = exec (decodeIdle b) s) ∧
    (s.phase ≠ .handshaking → s.phase ≠ .idle → hostMove s = .refused .wrongPhase) := by
  refine ⟨fun hp => ?_, fun hp => ?_, fun h1 h2 => ?_⟩
  · simp [hostMove, hostFetch, hb, hp, commandSpace, perform, decode_handshaking]
  · simp [hostMove, hostFetch, hb, hp, commandSpace, perform, decode_idle]
  · cases hp : s.phase <;> simp_all [hostMove, hostFetch, commandSpace, perform]

/-! ## The engine's move -/

/-- The engine stands in a pull that reads the transmit queue (R173, R178). -/
def Pulls (s : State) : Prop := s.cursor = .wrPull ∧ s.osrCnt = 0 ∨ s.cursor = .wrPull2

/-- What one engine cycle can do: the actions of R163 to R189, each under its own condition. -/
inductive EngineActs (s : State) : State → Prop
  | unstarted (hq : s.cursor = .unstarted) : EngineActs s s
  | delay (hq : s.cursor ≠ .unstarted) (hc : s.ctr ≠ 0) : EngineActs s { s with ctr := s.ctr - 1 }
  | rdEntry (hc : s.ctr = 0) (hq : s.cursor = .rdEntry) : EngineActs s (setDir .input .rdWaitHigh s)
  | lineHigh (hc : s.ctr = 0) (hq : s.cursor = .rdWaitHigh) (hl : line s = true) :
      EngineActs s (goTo .rdWaitLow s)
  | lineStillLow (hc : s.ctr = 0) (hq : s.cursor = .rdWaitHigh) (hl : line s = false) :
      EngineActs s s
  | lineStillHigh (hc : s.ctr = 0) (hq : s.cursor = .rdWaitLow) (hl : line s = true) :
      EngineActs s s
  | fallingEdge (hc : s.ctr = 0) (hq : s.cursor = .rdWaitLow) (hl : line s = false) :
      EngineActs s (delayThen (lenC1 s.cfg + lenC2 s.cfg / 2 - 1) .rdSample s)
  | sample (hc : s.ctr = 0) (hq : s.cursor = .rdSample) (h7 : s.isrCnt ≠ 7) :
      EngineActs s (goTo .rdWaitHigh (shiftIn (line s) s))
  | sampleLast (hc : s.ctr = 0) (hq : s.cursor = .rdSample) (h7 : s.isrCnt = 7)
      (hr : rxFull s = false) : EngineActs s (deliver (shiftIn (line s) s))
  | overrun (hc : s.ctr = 0) (hq : s.cursor = .rdSample) (h7 : s.isrCnt = 7)
      (hr : rxFull s = true) :
      EngineActs s { shiftIn (line s) s with rxOverrun := true, cursor := .rdPushStall }
  | heldByteWaits (hc : s.ctr = 0) (hq : s.cursor = .rdPushStall) (hr : rxFull s = true) :
      EngineActs s s
  | heldByteDelivered (hc : s.ctr = 0) (hq : s.cursor = .rdPushStall) (hr : rxFull s = false) :
      EngineActs s (deliver s)
  | wrEntry (hc : s.ctr = 0) (hq : s.cursor = .wrEntry) : EngineActs s (setDir .output .wrHigh s)
  | wrHigh (hc : s.ctr = 0) (hq : s.cursor = .wrHigh) :
      EngineActs s (goTo .wrPull (drivePin true s))
  | takesWord (hc : s.ctr = 0) (hp : Pulls s) {w : Word} {rest : List Word}
      (hw : s.txq = w :: rest) : EngineActs s (takeWord w s)
  | pullStalls (hc : s.ctr = 0) (hp : Pulls s) (hw : s.txq = []) : EngineActs s s
  | windowGoesOn (hc : s.ctr = 0) (hq : s.cursor = .wrPull) (hn : s.osrCnt ≠ 0) :
      EngineActs s (goTo .wrShift s)
  | shift (hc : s.ctr = 0) (hq : s.cursor = .wrShift) (hn : s.osrCnt ≠ 0) :
      EngineActs s (shiftOut .wrTest9 s)
  | shift2 (hc : s.ctr = 0) (hq : s.cursor = .wrShift2) (hn : s.osrCnt ≠ 0) :
      EngineActs s (shiftOut .wrJmpFast s)
  | dataBit (hc : s.ctr = 0) (hq : s.cursor = .wrTest9) (hn : s.osrCnt ≠ 0) :
      EngineActs s (goTo .wrPadBit s)
  | ninthBit (hc : s.ctr = 0) (hq : s.cursor = .wrTest9) (hn : s.osrCnt = 0) :
      EngineActs s (goTo .wrTestStop s)
  | lastByte (hc : s.ctr = 0) (hq : s.cursor = .wrTestStop) (hx : s.xbit = true) :
      EngineActs s (goTo .wrPadStop s)
  | moreBytes (hc : s.ctr = 0) (hq : s.cursor = .wrTestStop) (hx : s.xbit = false) :
      EngineActs s (goTo .wrPull2 s)
  | jmpFast (hc : s.ctr = 0) (hq : s.cursor = .wrJmpFast) : EngineActs s (goTo .wrPadFast s)
  | padBit (hc : s.ctr = 0) (hq : s.cursor = .wrPadBit) : EngineActs s (delayThen 3 .wrPadFast s)
  | padFast (hc : s.ctr = 0) (hq : s.cursor = .wrPadFast) :
      EngineActs s (delayThen (lenC3 s.cfg - 9) .wrLow s)
  | dataCell (hc : s.ctr = 0) (hq : s.cursor = .wrLow) : EngineActs s (openDataCell s.xbit s)
  | value (hc : s.ctr = 0) (hq : s.cursor = .wrVal) :
      EngineActs s (delayThen (lenC2 s.cfg - 2) .wrLoop (drivePin s.xbit s))
  | nextCell (hc : s.ctr = 0) (hq : s.cursor = .wrLoop) : EngineActs s (goTo .wrHigh s)
  | padStop (hc : s.ctr = 0) (hq : s.cursor = .wrPadStop) :
      EngineActs s (delayThen (lenC3 s.cfg - 6) .wrStopLow s)
  | stopCell (hc : s.ctr = 0) (hq : s.cursor = .wrStopLow) : EngineActs s (openStopCell s)
  | stopHigh (hc : s.ctr = 0) (hq : s.cursor = .wrStopHigh) :
      EngineActs s (delayThen (lenC2 s.cfg - 2) .wrToRead (drivePin true s))
  | toRead (hc : s.ctr = 0) (hq : s.cursor = .wrToRead) : EngineActs s (goTo .rdEntry s)

/-- A taken word is the whole word again (R128). -/
theorem exec_decodeTxw (w : Word) (s : State) : exec (decodeTxw w) s = .next (takeWord w s) := by
  obtain ⟨-, -, he⟩ := Encodings.decodeTxw_readFrom w
  cases hl : txwLastFlag w <;> simp only [decodeTxw, hl, Bool.false_eq_true, if_true, if_false,
    encode, Code.txw32.injEq] at he ⊢ <;> simp only [exec, execTxwMore, execTxwLast, he]

theorem engineMove_own {s : State} (hf : engineFetch s = .own) : engineMove s = engineAct s := by
  rw [engineMove, hf, perform]

/-- A micro-state that takes up no instruction is its own action. -/
theorem engineMove_microState {s : State} (hc : s.ctr = 0) (hu : s.cursor ≠ .unstarted)
    (h1 : s.cursor ≠ .wrPull) (h2 : s.cursor ≠ .wrPull2) (h3 : s.cursor ≠ .wrLow)
    (h4 : s.cursor ≠ .wrStopLow) : engineMove s = microState s := by
  rw [engineMove_own (engineFetch_of_cursor h1 h2 h3 h4), engineAct_of_started hu hc]

theorem engineMove_takesWord {s : State} {w : Word} {rest : List Word} (hc : s.ctr = 0)
    (hp : Pulls s) (hw : s.txq = w :: rest) : engineMove s = .next (takeWord w s) := by
  have hf : engineFetch s = .object .transmit (.txw32 w) := by
    obtain ⟨hq, hn⟩ | hq := hp <;> simp [engineFetch, fetchWord, windowExhausted, *]
  rw [engineMove, hf, perform, decode_transmit]
  exact exec_decodeTxw w s

theorem engineMove_pullStalls {s : State} (hc : s.ctr = 0) (hp : Pulls s) (hw : s.txq = []) :
    engineMove s = .next s := by
  have hf : engineFetch s = .own := by
    obtain ⟨hq, hn⟩ | hq := hp <;> simp [engineFetch, fetchWord, hc, hq, hw]
  rw [engineMove_own hf]
  obtain ⟨hq, hn⟩ | hq := hp <;>
    simp [engineAct, started, microState, wrPullNoWord, windowExhausted, *]

theorem engineMove_windowGoesOn {s : State} (hc : s.ctr = 0) (hq : s.cursor = .wrPull)
    (hn : s.osrCnt ≠ 0) : engineMove s = .next (goTo .wrShift s) := by
  have hf : engineFetch s = .own := by simp [engineFetch, windowExhausted, hc, hq, hn]
  rw [engineMove_own hf, engineAct_of_started (by simp [hq]) hc]
  simp [microState, hq, wrPullNoWord, windowExhausted, hn]

theorem engineMove_dataCell {s : State} (hc : s.ctr = 0) (hq : s.cursor = .wrLow) :
    engineMove s = .next (openDataCell s.xbit s) := by
  have hf : engineFetch s = .object .dataCell (.cell (dataCellSlices s.xbit)) := by
    simp [engineFetch, hc, hq]
  rw [engineMove, hf, perform, decode_dataCellSlices]
  cases s.xbit <;> rfl

theorem engineMove_stopCell {s : State} (hc : s.ctr = 0) (hq : s.cursor = .wrStopLow) :
    engineMove s = .next (openStopCell s) := by
  have hf : engineFetch s = .object .stopCell (.cell stopCellSlices) := by
    simp [engineFetch, hc, hq]
  rw [engineMove, hf, perform, decode_stopCellSlices]
  rfl

/-- What `EngineActs` allows is the engine's move. -/
theorem EngineActs.move {s t : State} (h : EngineActs s t) : engineMove s = .next t := by
  cases h with
  | unstarted hq =>
    rw [engineMove_own (engineFetch_of_cursor (by simp [hq]) (by simp [hq]) (by simp [hq])
      (by simp [hq])), engineAct_of_unstarted hq]
  | delay hq hc => rw [engineMove_own (engineFetch_of_delay hc), engineAct_of_delay hq hc]
  | takesWord hc hp hw => exact engineMove_takesWord hc hp hw
  | pullStalls hc hp hw => exact engineMove_pullStalls hc hp hw
  | windowGoesOn hc hq hn => exact engineMove_windowGoesOn hc hq hn
  | dataCell hc hq => exact engineMove_dataCell hc hq
  | stopCell hc hq => exact engineMove_stopCell hc hq
  | sample hc hq h7 =>
    rw [engineMove_microState hc] <;> simp [hq, microState, rdSample, inThreshold, h7]
  | sampleLast hc hq h7 hr | overrun hc hq h7 hr =>
    have hr' : rxFull (shiftIn (line s) s) = rxFull s := rfl
    rw [engineMove_microState hc] <;>
      simp [hq, microState, rdSample, inThreshold, byteComplete, h7, hr', hr]
  | lineHigh hc hq hl | lineStillLow hc hq hl =>
    rw [engineMove_microState hc] <;> simp [hq, microState, rdWaitHigh, hl]
  | lineStillHigh hc hq hl | fallingEdge hc hq hl =>
    rw [engineMove_microState hc] <;> simp [hq, microState, rdWaitLow, hl]
  | heldByteWaits hc hq hr | heldByteDelivered hc hq hr =>
    rw [engineMove_microState hc] <;> simp [hq, microState, rdPushStall, hr]
  | shift hc hq hn | shift2 hc hq hn =>
    rw [engineMove_microState hc] <;> simp [hq, microState, wrShift, wrShift2, takeBit, hn]
  | dataBit hc hq hn | ninthBit hc hq hn =>
    rw [engineMove_microState hc] <;> simp [hq, microState, wrTest9, windowExhausted, hn]
  | lastByte hc hq hx | moreBytes hc hq hx =>
    rw [engineMove_microState hc] <;> simp [hq, microState, wrTestStop, stopMark, hx]
  | rdEntry hc hq | wrEntry hc hq | wrHigh hc hq | jmpFast hc hq | padBit hc hq | padFast hc hq
  | value hc hq | nextCell hc hq | padStop hc hq | stopHigh hc hq | toRead hc hq =>
    rw [engineMove_microState hc] <;> simp [hq, microState] <;> rfl

/-- A shift from a spent window, the one thing an engine cycle may not do (R162 (4)). -/
def Underflows (s : State) : Prop :=
  s.ctr = 0 ∧ (s.cursor = .wrShift ∨ s.cursor = .wrShift2) ∧ s.osrCnt = 0

theorem engineMove_of_underflows {s : State} (h : Underflows s) :
    engineMove s = .fault .windowUnderflow := by
  obtain ⟨hc, hq | hq, hn⟩ := h <;>
    rw [engineMove_microState hc] <;> simp [hq, microState, wrShift, wrShift2, takeBit, hn]

/-- An engine that does not underflow acts. -/
theorem engineActs_or_underflows (s : State) : (∃ t, EngineActs s t) ∨ Underflows s := by
  by_cases hu : s.cursor = .unstarted
  · exact .inl ⟨_, .unstarted hu⟩
  by_cases hc : s.ctr = 0
  swap
  · exact .inl ⟨_, .delay hu hc⟩
  cases hq : s.cursor with
  | unstarted => exact absurd hq hu
  | rdEntry => exact .inl ⟨_, .rdEntry hc hq⟩
  | rdWaitHigh =>
    cases hl : line s with
    | true => exact .inl ⟨_, .lineHigh hc hq hl⟩
    | false => exact .inl ⟨_, .lineStillLow hc hq hl⟩
  | rdWaitLow =>
    cases hl : line s with
    | true => exact .inl ⟨_, .lineStillHigh hc hq hl⟩
    | false => exact .inl ⟨_, .fallingEdge hc hq hl⟩
  | rdSample =>
    by_cases h7 : s.isrCnt = 7
    · cases hr : rxFull s with
      | true => exact .inl ⟨_, .overrun hc hq h7 hr⟩
      | false => exact .inl ⟨_, .sampleLast hc hq h7 hr⟩
    · exact .inl ⟨_, .sample hc hq h7⟩
  | rdPushStall =>
    cases hr : rxFull s with
    | true => exact .inl ⟨_, .heldByteWaits hc hq hr⟩
    | false => exact .inl ⟨_, .heldByteDelivered hc hq hr⟩
  | wrPull =>
    by_cases hn : s.osrCnt = 0
    · cases hw : s.txq with
      | nil => exact .inl ⟨_, .pullStalls hc (.inl ⟨hq, hn⟩) hw⟩
      | cons w rest => exact .inl ⟨_, .takesWord hc (.inl ⟨hq, hn⟩) hw⟩
    · exact .inl ⟨_, .windowGoesOn hc hq hn⟩
  | wrPull2 =>
    cases hw : s.txq with
    | nil => exact .inl ⟨_, .pullStalls hc (.inr hq) hw⟩
    | cons w rest => exact .inl ⟨_, .takesWord hc (.inr hq) hw⟩
  | wrShift =>
    by_cases hn : s.osrCnt = 0
    · exact .inr ⟨hc, .inl hq, hn⟩
    · exact .inl ⟨_, .shift hc hq hn⟩
  | wrShift2 =>
    by_cases hn : s.osrCnt = 0
    · exact .inr ⟨hc, .inr hq, hn⟩
    · exact .inl ⟨_, .shift2 hc hq hn⟩
  | wrTest9 =>
    by_cases hn : s.osrCnt = 0
    · exact .inl ⟨_, .ninthBit hc hq hn⟩
    · exact .inl ⟨_, .dataBit hc hq hn⟩
  | wrTestStop =>
    cases hx : s.xbit with
    | true => exact .inl ⟨_, .lastByte hc hq hx⟩
    | false => exact .inl ⟨_, .moreBytes hc hq hx⟩
  | wrEntry => exact .inl ⟨_, .wrEntry hc hq⟩
  | wrHigh => exact .inl ⟨_, .wrHigh hc hq⟩
  | wrJmpFast => exact .inl ⟨_, .jmpFast hc hq⟩
  | wrPadBit => exact .inl ⟨_, .padBit hc hq⟩
  | wrPadFast => exact .inl ⟨_, .padFast hc hq⟩
  | wrLow => exact .inl ⟨_, .dataCell hc hq⟩
  | wrVal => exact .inl ⟨_, .value hc hq⟩
  | wrLoop => exact .inl ⟨_, .nextCell hc hq⟩
  | wrPadStop => exact .inl ⟨_, .padStop hc hq⟩
  | wrStopLow => exact .inl ⟨_, .stopCell hc hq⟩
  | wrStopHigh => exact .inl ⟨_, .stopHigh hc hq⟩
  | wrToRead => exact .inl ⟨_, .toRead hc hq⟩

/-- The engine's move is an action of `EngineActs`, or the fault of an underflow. -/
theorem engineMove_total (s : State) :
    (∃ t, engineMove s = .next t ∧ EngineActs s t) ∨
      (engineMove s = .fault .windowUnderflow ∧ Underflows s) := by
  obtain ⟨t, ha⟩ | hu := engineActs_or_underflows s
  · exact .inl ⟨t, ha.move, ha⟩
  · exact .inr ⟨engineMove_of_underflows hu, hu⟩

theorem engineMove_eq_next {s t : State} : engineMove s = .next t ↔ EngineActs s t := by
  refine ⟨fun h => ?_, EngineActs.move⟩
  obtain ⟨u, hu, ha⟩ | ⟨hf, -⟩ := engineMove_total s
  · cases hu.symm.trans h
    exact ha
  · cases hf.symm.trans h

theorem engineMove_ne_refused {s : State} {r : Refusal} : engineMove s ≠ .refused r := by
  obtain ⟨t, h, -⟩ | ⟨h, -⟩ := engineMove_total s <;> simp [h]

/-! ## One step -/

/-- An engine turn that acts. -/
theorem step_of_acts {s t : State} (ht : turn s = .engine) (h : EngineActs s t) :
    step s = .next (closeCycle s t) := by
  rw [step_of_engine ht, h.move, onNext_next]

/-- An engine turn that answers a next state is one action, closed. -/
theorem step_engine_cases {s t : State} (ht : turn s = .engine) (h : step s = .next t) :
    ∃ u, EngineActs s u ∧ t = closeCycle s u := by
  rw [step_of_engine ht, onNext_eq_next] at h
  obtain ⟨u, hu, rfl⟩ := h
  exact ⟨u, engineMove_eq_next.mp hu, rfl⟩

/-- A host turn that answers a next state is one move of the host, closed. -/
theorem step_host_cases {s t : State} (ht : turn s = .host) (h : step s = .next t) :
    ∃ u, hostMove s = .next u ∧ t = closeHostTurn u := by
  rw [step_of_host ht, onNext_eq_next] at h
  exact h

end Sys2Proof.Proofs.Moves
end

section
/-! The engine, micro-state by micro-state (40_signal_engine.md R163 to R189), and the wire
(20_memory.md R84). Each clause is one constructor of `EngineActs`, closed by `step_of_acts`. -/

open Sys2Proof Sys2Proof.Machine

namespace Sys2Proof.Proofs.MicroStates

open Moves

/-! ## Words and cells taken up -/

/-- Settles O14: both words are taken whole, and the cursor chooses the shift. -/
theorem engineWordOpensANineBitWindow : Obligations.EngineWordOpensANineBitWindow := by
  intro data ignored s
  refine ⟨fun hq => ⟨?_, ?_⟩, fun hq => ⟨?_, ?_⟩⟩ <;>
    simp [exec, execTxwMore, execTxwLast, takeWord, afterPull, hq] <;> rfl

/-- `C1 = K` (R10, R11). -/
theorem lenC1_eq (c : Config) : lenC1 c = c.k := Nat.one_mul _

/-- `C2 = 2K`. -/
theorem lenC2_eq (c : Config) : lenC2 c = 2 * c.k := rfl

/-- `C3 = K`. -/
theorem lenC3_eq (c : Config) : lenC3 c = c.k := Nat.one_mul _

/-- Settles O15: the three cells open alike, and a data cell keeps its value. -/
theorem cellsOpenWithALowPulse : Obligations.CellsOpenWithALowPulse := by
  intro s
  simp only [← lenC1_eq]
  exact ⟨rfl, rfl, rfl⟩

/-- Settles O17: a pull reads the oldest word, and the row is the decoder's. -/
theorem stepRunsThePulledWord : Obligations.StepRunsThePulledWord := by
  intro s w rest ht hc hw hp
  rw [step_of_acts ht (.takesWord hc hp hw), ← onNext_next (closeCycle s), ← exec_decodeTxw]
  rfl

/-- Settles O18: `xbit` selects the data cell's row. -/
theorem stepRunsTheOpenedCell : Obligations.StepRunsTheOpenedCell := by
  intro s ht hc
  refine ⟨fun hq => ?_, fun hq => step_of_acts ht (.stopCell hc hq)⟩
  rw [step_of_acts ht (.dataCell hc hq)]
  cases s.xbit <;> rfl

/-! ## The actions -/

/-- Settles O19: a delay cycle and a turn before `init` are two constructors of `EngineActs`. -/
theorem delayCycleOnlyCountsDown : Obligations.DelayCycleOnlyCountsDown := fun _ ht =>
  ⟨fun hu hc => step_of_acts ht (.delay hu (by omega)), fun hu => step_of_acts ht (.unstarted hu)⟩

/-- Settles O20: each entry is one constructor of `EngineActs`. -/
theorem entryStatesSetTheDirection : Obligations.EntryStatesSetTheDirection := fun _ ht hc =>
  ⟨fun hq => step_of_acts ht (.rdEntry hc hq), fun hq => step_of_acts ht (.wrEntry hc hq)⟩

/-- Settles O21: the level of the wire decides both waits. -/
theorem readLoopWaitsForAFallingEdge : Obligations.ReadLoopWaitsForAFallingEdge := by
  intro s ht hc
  cases hl : line s with
  | true =>
    exact ⟨fun hq => step_of_acts ht (.lineHigh hc hq hl),
      fun hq => step_of_acts ht (.lineStillHigh hc hq hl)⟩
  | false =>
    refine ⟨fun hq => step_of_acts ht (.lineStillLow hc hq hl), fun hq => ?_⟩
    rw [step_of_acts ht (.fallingEdge hc hq hl), lenC1_eq, lenC2_eq]
    rfl

/-- Settles O23: room in RXQ decides. -/
theorem heldByteIsDeliveredOnceThereIsRoom : Obligations.HeldByteIsDeliveredOnceThereIsRoom := by
  intro s ht hc hq
  cases hr : rxFull s with
  | true =>
    rw [if_neg (by simpa using rxFull_iff.mp hr)]
    exact step_of_acts ht (.heldByteWaits hc hq hr)
  | false =>
    rw [if_pos (by simpa [rxFull] using hr)]
    exact step_of_acts ht (.heldByteDelivered hc hq hr)

/-- Settles O24: a window with a bit left is shifted. -/
theorem writeLoopDrivesHighAndTakesTheTopBit :
    Obligations.WriteLoopDrivesHighAndTakesTheTopBit := fun _ ht hc =>
  ⟨fun hq => step_of_acts ht (.wrHigh hc hq),
    fun hq hn => step_of_acts ht (.shift hc hq (by omega)),
    fun hq hn => step_of_acts ht (.shift2 hc hq (by omega))⟩

/-- Settles O25: an empty queue stalls both pulls, an open window needs no word. -/
theorem pullStallsOnAnEmptyQueueOnly : Obligations.PullStallsOnAnEmptyQueueOnly := fun _ ht hc =>
  ⟨fun hq hn hw => step_of_acts ht (.pullStalls hc (.inl ⟨hq, hn⟩) hw),
    fun hq hw => step_of_acts ht (.pullStalls hc (.inr hq) hw),
    fun hq hn => step_of_acts ht (.windowGoesOn hc hq (by omega))⟩

/-- Settles O26: the window and `xbit` decide the two tests, the rest is fixed. -/
theorem writeLoopTestsAndPads : Obligations.WriteLoopTestsAndPads := by
  intro s ht hc
  refine ⟨fun hq => ?_, fun hq => ?_, fun hq => step_of_acts ht (.jmpFast hc hq),
    fun hq => step_of_acts ht (.padBit hc hq), fun hq => ?_, fun hq => ?_⟩
  · by_cases hn : s.osrCnt = 0
    · rw [if_neg (not_not.mpr hn)]
      exact step_of_acts ht (.ninthBit hc hq hn)
    · rw [if_pos hn]
      exact step_of_acts ht (.dataBit hc hq hn)
  · by_cases hx : s.xbit = true
    · rw [if_pos hx]
      exact step_of_acts ht (.lastByte hc hq hx)
    · rw [if_neg hx]
      exact step_of_acts ht (.moreBytes hc hq (Bool.eq_false_iff.mpr hx))
  · rw [step_of_acts ht (.padFast hc hq), lenC3_eq]
    rfl
  · rw [step_of_acts ht (.padStop hc hq), lenC3_eq]
    rfl

/-- Settles O27: each of the four micro-states has one action. -/
theorem valuePhaseAndReturnToRead : Obligations.ValuePhaseAndReturnToRead := fun _ ht hc =>
  ⟨fun hq => step_of_acts ht (.value hc hq), fun hq => step_of_acts ht (.nextCell hc hq),
    fun hq => step_of_acts ht (.stopHigh hc hq), fun hq => step_of_acts ht (.toRead hc hq)⟩

/-! ## The wire -/

/-- The core does not drive with `dir` Input, nor before `init` (R84, R360). -/
theorem not_driving {s : State} (h : s.cursor = .unstarted ∨ s.dir = .input) :
    driving s = false := by
  obtain h | h := h <;> simp [driving, started, h]

/-- Settles O28: the pin while the core drives, else the console's drive in this cycle. -/
theorem lineIsDrivenByTheCoreOrTheConsole : Obligations.LineIsDrivenByTheCoreOrTheConsole := by
  intro s
  refine ⟨fun hu hd => line_of_driving (driving_iff.mpr ⟨hu, hd⟩), fun h hl => ?_,
    fun h hr => (line_of_released (not_driving h)).mpr hr, fun _ _ => consoleNow_of_script,
    fun _ => consoleNow_of_hold, fun _ => consoleNow_of_free⟩
  simp [line, not_driving h, hl]

end Sys2Proof.Proofs.MicroStates
end

section
/-! What a host turn does to the rest of the machine (41_frame_transport.md R221; 10_state.md
R55). Most of the host's operations change nothing but the session's part of the state
(`SessionOp`); what is left is a byte taken, a word queued, a restart and `init` (`HostReach`). -/

open Sys2Proof Sys2Proof.Machine

namespace Sys2Proof.Proofs.HostMoves

open Moves LineDirection

/-! ## The session's part of the state -/

/-- The state without what belongs to the session, the caller and the schedule. -/
def hardware (s : State) : State :=
  { s with
    phase := .noSession, timeout := 0, owned := false, host := .outside
    snapshot := Snapshot.clear, calls := [], sched := [], result := none }

/-- A way of not looking at some of the bits a state holds: of the queued words, of `osr` with a
window of a given length, and of the two sticky flags. -/
structure Veil where
  word : Word → Word
  window : Nat → Word → Word
  flag : Bool → Bool

/-- The state as it shows through the veil. -/
def Veil.hide (v : Veil) (s : State) : State :=
  { s with
    osr := v.window s.osrCnt s.osr
    txq := s.txq.map v.word
    rxOverrun := v.flag s.rxOverrun
    contention := v.flag s.contention }

/-- `f` works on the session's part of the state alone: it leaves the hardware, and it looks
neither at `osr` nor at the queued words nor at the flags. -/
structure SessionOp (f : State → State) : Prop where
  keeps : ∀ s, hardware (f s) = hardware s
  hides : ∀ (v : Veil) s, v.hide (f s) = f (v.hide s)

theorem hostAt_sessionOp (p : HostPos) : SessionOp (hostAt p) :=
  ⟨fun _ => rfl, fun _ _ => rfl⟩

theorem returnWith_sessionOp (r : Result) : SessionOp (returnWith r) :=
  ⟨fun _ => rfl, fun _ _ => rfl⟩

theorem beginReceive_sessionOp (k : RecvFor) : SessionOp (beginReceive k) :=
  ⟨fun _ => rfl, fun _ _ => rfl⟩

theorem beginSend_sessionOp (p : List Byte) (k : SendFor) : SessionOp (beginSend p k) :=
  ⟨fun _ => rfl, fun _ _ => rfl⟩

theorem returnSession_sessionOp : SessionOp returnSession :=
  ⟨fun _ => rfl, fun _ _ => rfl⟩

theorem listenAgain_sessionOp : SessionOp listenAgain :=
  ⟨fun _ => rfl, fun _ _ => rfl⟩

theorem enterErrorRecovery_sessionOp (k : RecoverFor) : SessionOp (enterErrorRecovery k) :=
  ⟨fun _ => rfl, fun _ _ => rfl⟩

theorem closeHostTurn_sessionOp : SessionOp closeHostTurn :=
  ⟨fun _ => rfl, fun _ _ => rfl⟩

theorem afterDiscard_sessionOp (n : Nat) : SessionOp (afterDiscard n) := by
  by_cases h : n ≤ 1 <;>
    exact ⟨fun _ => by simp only [afterDiscard, h]; rfl,
      fun _ _ => by simp only [afterDiscard, h]; rfl⟩

theorem receivedByte_sessionOp (b : Byte) (k : RecvFor) : SessionOp (receivedByte b k) := by
  cases k with
  | direct => exact returnWith_sessionOp _
  | handshake | waitForPoll => exact hostAt_sessionOp _
  | discard n => exact afterDiscard_sessionOp n

theorem receivedNothing_sessionOp (k : RecvFor) : SessionOp (receivedNothing k) := by
  cases k with
  | direct => exact returnWith_sessionOp _
  | handshake => exact ⟨fun _ => rfl, fun _ _ => rfl⟩
  | waitForPoll => exact enterErrorRecovery_sessionOp _
  | discard n => exact afterDiscard_sessionOp n

theorem sendReturns_sessionOp (k : SendFor) : SessionOp (sendReturns k) := by
  cases k <;> exact ⟨fun _ => rfl, fun _ _ => rfl⟩

theorem delayReturns_sessionOp (k : AfterDelay) : SessionOp (delayReturns k) := by
  cases k <;> exact ⟨fun _ => rfl, fun _ _ => rfl⟩

/-! ## The dispatch of a command byte -/

/-- The response a command begins in the handshake (R264 to R270). -/
def handshakeResponse (c : Command) (s : State) : State :=
  match c with
  | .probe | .reset => beginReply idReply .handshake (setPhase .respondingResetOrProbe s)
  | .origin | .recalibrate => beginReply calReplyHs .handshake (setPhase .respondingRecalOrOrigin s)
  | .poll => beginSend (report s.snapshot) .handshake (setPhase .respondingPoll s)
  | .unknown => enterErrorRecovery .handshake s

/-- The response a command begins in the poll loop (R272 to R278). -/
def loopResponse (c : Command) (s : State) : State :=
  match c with
  | .probe | .reset => beginReply idReply .waitForPoll (setPhase .respondingResetOrProbe s)
  | .origin | .recalibrate =>
    beginReply calReplySs .waitForPoll (setPhase .respondingRecalOrOrigin s)
  | .poll => returnWith .done (setPhase .pollPending s)
  | .unknown => enterErrorRecovery .waitForPoll s

theorem exec_decodeHandshaking (b : Byte) (s : State) :
    exec (decodeHandshaking b) s = .next (handshakeResponse (classify b) s) := by
  unfold decodeHandshaking
  cases classify b <;> rfl

theorem exec_decodeIdle (b : Byte) (s : State) :
    exec (decodeIdle b) s = .next (loopResponse (classify b) s) := by
  unfold decodeIdle
  cases classify b <;> rfl

theorem handshakeResponse_sessionOp (c : Command) : SessionOp (handshakeResponse c) := by
  cases c <;> exact ⟨fun _ => rfl, fun _ _ => rfl⟩

theorem loopResponse_sessionOp (c : Command) : SessionOp (loopResponse c) := by
  cases c <;> exact ⟨fun _ => rfl, fun _ _ => rfl⟩

/-- A dispatch begins a response in the two phases that decode commands, and is refused in the
others. -/
theorem hostMove_dispatch_cases {s : State} {b : Byte} (hb : s.host = .dispatch b) :
    (s.phase = .handshaking ∧ hostMove s = .next (handshakeResponse (classify b) s)) ∨
    (s.phase = .idle ∧ hostMove s = .next (loopResponse (classify b) s)) ∨
    (s.phase ≠ .handshaking ∧ s.phase ≠ .idle ∧ hostMove s = .refused .wrongPhase) := by
  obtain ⟨hh, hi, ho⟩ := hostMove_of_dispatch hb
  by_cases h1 : s.phase = .handshaking
  · exact .inl ⟨h1, (hh h1).trans (exec_decodeHandshaking b s)⟩
  · by_cases h2 : s.phase = .idle
    · exact .inr (.inl ⟨h2, (hi h2).trans (exec_decodeIdle b s)⟩)
    · exact .inr (.inr ⟨h1, h2, ho h1 h2⟩)

/-! ## The caller's calls -/

/-- Outside every operation the host takes the caller's next call. -/
theorem hostMove_of_call {s : State} {op : HostOp} {rest : List Call} (ho : s.host = .outside)
    (hc : s.calls = ⟨.host, op⟩ :: rest) : hostMove s = takeCall op { s with calls := rest } := by
  rw [hostMove_of_position (by simp [ho]) (by simp [secondThreadCalls, hc])]
  simp [hostAdvance, ho, hc]

theorem takeCall_of_started {s : State} {op : HostOp} (h : s.cursor ≠ .unstarted ∨ op = .init) :
    takeCall op s = invoke op s := by
  obtain h | h := h <;> simp [takeCall, started, h]

theorem takeCall_of_unstarted {s : State} {op : HostOp} (hu : s.cursor = .unstarted)
    (h : op ≠ .init) : takeCall op s = .refused .notInitialised := by
  simp [takeCall, started, hu, h]

/-- A call that is taken is an invocation, of `init` or on an initialised core (R363). -/
theorem takeCall_eq_next {s t : State} {op : HostOp} :
    takeCall op s = .next t ↔ (s.cursor ≠ .unstarted ∨ op = .init) ∧ invoke op s = .next t := by
  by_cases h : s.cursor ≠ .unstarted ∨ op = .init
  · simp [takeCall_of_started h, h]
  · obtain ⟨hu, hi⟩ := not_or.mp h
    simp [takeCall_of_unstarted (not_not.mp hu) hi, h]

/-- What a host move outside every operation can answer: it waits, or it takes a call. -/
theorem hostMove_outside_cases {s t : State} (ho : s.host = .outside) (h : hostMove s = .next t) :
    (s.calls = [] ∧ t = s) ∨
    (∃ op rest, s.calls = ⟨.host, op⟩ :: rest ∧ (s.cursor ≠ .unstarted ∨ op = .init) ∧
      invoke op { s with calls := rest } = .next t) := by
  rw [hostMove_of_not_dispatch (by simp [ho])] at h
  obtain hw | ⟨op, rest, hc, -⟩ := hostAct_outside_cases ho h
  · exact .inl hw
  · rw [← hostMove_of_not_dispatch (by simp [ho]), hostMove_of_call ho hc, takeCall_eq_next] at h
    exact .inr ⟨op, rest, hc, h⟩

/-! ## The hardware after a host move -/

/-- What a host move can do to the hardware (R55, R371): nothing, take the oldest byte, queue a
word, restart the engine, or bring it up. -/
inductive HostReach (s t : State) : Prop
  | keeps (h : hardware t = hardware s)
  | takesByte (b : Byte) (rest : List Byte) (hx : s.rxq = b :: rest)
      (h : hardware t = hardware (dropRxq s))
  | queuesWord (w : Word) (hr : txFull s = false) (h : hardware t = hardware (pushTxq w s))
  | restarts (c : Cursor) (hc : c = .rdEntry ∨ c = .wrEntry)
      (hu : s.cursor ≠ .unstarted ∨ s.host ≠ .outside) (h : hardware t = hardware (restartAt c s))
  | inits (hi : TakesInit s) (hk : configOk s.cfg = true)
    (h : hardware t = hardware (initTransport s))

theorem stepTestQueue_reach (n t0 : Nat) (k : RecvFor) (s : State) :
    HostReach s (stepTestQueue n t0 k s) := by
  cases hx : s.rxq with
  | nil => simp only [stepTestQueue, hx]; exact .keeps rfl
  | cons b rest =>
    simp only [stepTestQueue, hx]
    exact .takesByte b rest hx ((receivedByte_sessionOp b k).keeps _)

theorem stepTestClock_reach (n t0 : Nat) (k : RecvFor) (s : State) :
    HostReach s (stepTestClock n t0 k s) := by
  unfold stepTestClock
  split
  · exact .keeps ((receivedNothing_sessionOp k).keeps s)
  · exact .keeps rfl

theorem stepWaitLine_reach (p : List Byte) (k : SendFor) (s : State) :
    HostReach s (stepWaitLine p k s) := by
  unfold stepWaitLine
  split <;> exact .keeps rfl

theorem stepPush_reach (p : List Byte) (i : Nat) (k : SendFor) (s : State) :
    HostReach s (stepPush p i k s) := by
  unfold stepPush
  split
  · exact .keeps ((sendReturns_sessionOp k).keeps s)
  · split_ifs with hr
    · exact .keeps rfl
    · exact .queuesWord _ (Bool.eq_false_iff.mpr hr) ((sendReturns_sessionOp k).keeps _)
    · exact .queuesWord _ (Bool.eq_false_iff.mpr hr) rfl

theorem leaveErrorRecovery_reach {k : RecoverFor} {s : State} (ho : s.host ≠ .outside) :
    HostReach s (leaveErrorRecovery k s) := by
  cases k <;> exact .restarts .rdEntry (.inl rfl) (.inr ho) rfl

theorem invoke_reach {op : HostOp} {rest : List Call} {s t : State} (ho : s.host = .outside)
    (hc : s.calls = ⟨.host, op⟩ :: rest) (hu : s.cursor ≠ .unstarted ∨ op = .init)
    (h : invoke op { s with calls := rest } = .next t) : HostReach s t := by
  obtain ⟨rfl, hk, rfl⟩ | ⟨-, rfl, rfl⟩ | ⟨-, rfl, rfl⟩ | ⟨-, n, rfl, rfl⟩ | ⟨-, p, -, rfl, rfl⟩ |
    ⟨-, n, p, rfl, rfl⟩ | ⟨-, rfl, rfl⟩ | ⟨-, p, rfl, rfl⟩ := invoke_next_cases h
  · exact .inits ⟨ho, by simp [hc]⟩ hk rfl
  · exact .restarts .rdEntry (.inl rfl) (.inl (by simpa using hu)) rfl
  · exact .restarts .wrEntry (.inr rfl) (.inl (by simpa using hu)) rfl
  all_goals exact .keeps rfl

theorem delay_reach (n : Nat) (k : AfterDelay) (s : State) :
    HostReach s (if s.now < n then s else delayReturns k s) := by
  split
  · exact .keeps rfl
  · exact .keeps ((delayReturns_sessionOp k).keeps s)

/-- Inside an operation the host's move is the step of its position. -/
theorem hostAdvance_reach {s t : State} (ho : s.host ≠ .outside) (h : hostAdvance s = .next t) :
    HostReach s t := by
  cases hh : s.host <;> simp only [hostAdvance, hh] at h
  case outside => exact absurd hh ho
  case readTick => cases h; exact .keeps rfl
  case testQueue n t0 k => cases h; exact stepTestQueue_reach n t0 k s
  case testClock n t0 k => cases h; exact stepTestClock_reach n t0 k s
  case dispatch => cases h; exact .keeps rfl
  case delay n k => cases h; exact delay_reach n k s
  case waitLine p k => cases h; exact stepWaitLine_reach p k s
  case restartWrite => cases h; exact .restarts .wrEntry (.inr rfl) (.inr ho) rfl
  case push p i k => cases h; exact stepPush_reach p i k s
  case recoverRestart => cases h; exact leaveErrorRecovery_reach ho

theorem hostMove_reach {s t : State} (h : hostMove s = .next t) : HostReach s t := by
  by_cases hd : ∃ b, s.host = .dispatch b
  · obtain ⟨b, hb⟩ := hd
    obtain ⟨-, he⟩ | ⟨-, he⟩ | ⟨-, -, he⟩ := hostMove_dispatch_cases hb <;> cases he.symm.trans h
    · exact .keeps ((handshakeResponse_sessionOp _).keeps s)
    · exact .keeps ((loopResponse_sessionOp _).keeps s)
  · by_cases ho : s.host = .outside
    · obtain ⟨-, rfl⟩ | ⟨op, rest, hc, hu, hi⟩ := hostMove_outside_cases ho h
      · exact .keeps rfl
      · exact invoke_reach ho hc hu hi
    · rw [hostMove_of_not_dispatch (not_exists.mp hd)] at h
      exact hostAdvance_reach ho (hostAct_eq_next.mp h).2

/-- What a host turn can do to the hardware. -/
theorem step_host_reach {s t : State} (ht : turn s = .host) (h : step s = .next t) :
    HostReach s t := by
  obtain ⟨u, hu, rfl⟩ := step_host_cases ht h
  obtain h | ⟨b, rest, hx, h⟩ | ⟨w, hr, h⟩ | ⟨c, hc, hn, h⟩ | ⟨hi, hk, h⟩ := hostMove_reach hu
  · exact .keeps h
  · exact .takesByte b rest hx h
  · exact .queuesWord w hr h
  · exact .restarts c hc hn h
  · exact .inits hi hk h

end Sys2Proof.Proofs.HostMoves
end

section
/-! The engine's invariant (10_state.md R53, R32; 40_signal_engine.md R162): every action of the
engine and everything the host can do to the hardware keeps it, and it excludes the one fault. -/

open Sys2Proof Sys2Proof.Machine

namespace Sys2Proof.Proofs.EngineInvariant

open Moves HostMoves LineDirection

/-! ## Bounds -/

/-- A sample makes the partial byte one bit longer (R167). -/
theorem shiftIn_isr_lt {s : State} (v : Bool) (h : s.isr.toNat < 2 ^ s.isrCnt) :
    (shiftIn v s).isr.toNat < 2 ^ (s.isrCnt + 1) := by
  rw [shiftIn_isr, BitVec.toNat_or]
  apply Nat.or_lt_two_pow
  · rw [BitVec.toNat_shiftLeft, Nat.shiftLeft_eq, pow_succ]
    exact (Nat.mod_le _ _).trans_lt (by omega)
  · have hb : (bit v).toNat ≤ 1 := by cases v <;> simp [bit]
    have : 1 ≤ 2 ^ s.isrCnt := Nat.one_le_two_pow
    omega

/-- Every delay the micro-states load is within the bound of R32. -/
theorem loads_le_maxDelay {c : Config} (h : configOk c = true) :
    lenC1 c + lenC2 c / 2 - 1 ≤ maxDelay c ∧ lenC2 c - 2 ≤ maxDelay c ∧ lenC3 c - 6 ≤ maxDelay c ∧
      lenC3 c - 9 ≤ maxDelay c ∧ lenC1 c - 1 ≤ maxDelay c ∧ 3 ≤ maxDelay c := by
  simp only [configOk, Bool.and_eq_true, decide_eq_true_eq] at h
  simp only [maxDelay, lenC1, lenC2, lenC3, t1, t2, t3]
  omega

/-- The part of `EngineOk` that bounds each register by itself. -/
structure Bounded (s : State) : Prop where
  cfg : configOk s.cfg = true
  rxq : s.rxq.length ≤ s.cfg.qdepth
  txq : s.txq.length ≤ s.cfg.qdepth
  ctr : s.ctr ≤ maxDelay s.cfg
  isrCnt : s.isrCnt ≤ 8
  isr : s.isr.toNat < 2 ^ s.isrCnt
  osrCnt : s.osrCnt ≤ 9

/-- The part of `EngineOk` that ties the counts and the direction to the cursor. -/
structure Agrees (s : State) : Prop where
  held : s.isrCnt = 8 → s.cursor = .rdPushStall
  shift : s.cursor = .wrShift ∨ s.cursor = .wrShift2 → 1 ≤ s.osrCnt
  spent : windowSpent s.cursor = true → s.osrCnt = 0
  read : readMode s.cursor = true → s.osrCnt = 0 ∧ (s.cursor ≠ .rdEntry → s.dir = .input)
  write : writeMode s.cursor = true → s.isrCnt = 0 ∧ (s.cursor ≠ .wrEntry → s.dir = .output)

theorem engineOk_iff {s : State} : EngineOk s ↔ Bounded s ∧ Agrees s := by
  constructor
  · rintro ⟨hk, hrx, htx, hctr, hcnt, h8, hisr, hosr, hsh, hsp, hrm, hwm, hdi, hdo⟩
    exact ⟨⟨hk, hrx, htx, hctr, hcnt, hisr, hosr⟩,
      ⟨h8, hsh, hsp, fun hr => ⟨hrm hr, hdi hr⟩, fun hw => ⟨hwm hw, hdo hw⟩⟩⟩
  · rintro ⟨⟨hk, hrx, htx, hctr, hcnt, hisr, hosr⟩, ⟨h8, hsh, hsp, hr, hw⟩⟩
    exact ⟨hk, hrx, htx, hctr, hcnt, h8, hisr, hosr, hsh, hsp, fun h => (hr h).1,
      fun h => (hw h).1, fun h => (hr h).2, fun h => (hw h).2⟩

/-! ## The engine -/

theorem deliver_bounded {s : State} (h : Bounded s) (hr : rxFull s = false) :
    Bounded (deliver s) := by
  have hroom : ¬ s.cfg.qdepth ≤ s.rxq.length := by simpa [rxFull] using hr
  exact { h with rxq := by simp; omega, isrCnt := by simp, isr := by simp }

theorem shiftIn_bounded {s : State} (v : Bool) (h : Bounded s) (h8 : s.isrCnt ≠ 8) :
    Bounded (shiftIn v s) :=
  { h with
    isrCnt := by have := h.isrCnt; simp; omega
    isr := shiftIn_isr_lt v h.isr }

theorem acts_keeps_bounded {s t : State} (h : Bounded s) (hg : Agrees s) (ha : EngineActs s t) :
    Bounded t := by
  obtain ⟨h1, h2, h3, h4, h5, h6⟩ := loads_le_maxDelay h.cfg
  cases ha with
  | unstarted | lineStillLow | lineStillHigh | heldByteWaits | pullStalls => exact h
  | delay => exact { h with ctr := (Nat.sub_le _ _).trans h.ctr }
  | fallingEdge => exact { h with ctr := h1 }
  | value | stopHigh => exact { h with ctr := h2 }
  | padStop => exact { h with ctr := h3 }
  | padFast => exact { h with ctr := h4 }
  | dataCell | stopCell => exact { h with ctr := h5 }
  | padBit => exact { h with ctr := h6 }
  | sample hc hq | overrun hc hq =>
    exact { shiftIn_bounded (line s) h (fun h8 => by simpa [hq] using hg.held h8) with }
  | sampleLast hc hq h7 hr =>
    exact deliver_bounded (shiftIn_bounded (line s) h (by omega)) hr
  | heldByteDelivered hc hq hr => exact deliver_bounded h hr
  | @takesWord hc hp w rest hw =>
    have hlen : (takeWord w s).txq.length ≤ s.txq.length := by simp [takeWord]
    exact { h with txq := hlen.trans h.txq, osrCnt := le_refl 9 }
  | shift | shift2 => exact { h with osrCnt := (Nat.sub_le _ _).trans h.osrCnt }
  | rdEntry | lineHigh | wrEntry | wrHigh | windowGoesOn | dataBit | ninthBit | lastByte
  | moreBytes | jmpFast | nextCell | toRead => exact { h with }

theorem agrees_of_read {t : State} (hr : readMode t.cursor = true)
    (h8 : t.isrCnt = 8 → t.cursor = .rdPushStall) (h0 : t.osrCnt = 0)
    (hd : t.cursor ≠ .rdEntry → t.dir = .input) : Agrees t where
  held := h8
  shift := by rintro (hq | hq) <;> simp [hq, readMode] at hr
  spent := fun _ => h0
  read := fun _ => ⟨h0, hd⟩
  write := by simp [writeMode, hr]

theorem agrees_of_write {t : State} (hw : writeMode t.cursor = true) (hi : t.isrCnt = 0)
    (hsh : t.cursor = .wrShift ∨ t.cursor = .wrShift2 → 1 ≤ t.osrCnt)
    (hsp : windowSpent t.cursor = true → t.osrCnt = 0)
    (hd : t.cursor ≠ .wrEntry → t.dir = .output) : Agrees t where
  held := by simp [hi]
  shift := hsh
  spent := hsp
  read := fun hr => by simp [writeMode, hr] at hw
  write := fun _ => ⟨hi, hd⟩

/-- A pull is in write mode, and it does not stand in `WR_ENTRY`. -/
theorem writeMode_of_pulls {s : State} (hp : Pulls s) :
    writeMode s.cursor = true ∧ s.cursor ≠ .wrEntry := by
  obtain ⟨hq, -⟩ | hq := hp <;> simp [hq, writeMode, readMode]

/-- After a pull the window is shifted (R173, R178). -/
theorem afterPull_cases (c : Cursor) : afterPull c = .wrShift ∨ afterPull c = .wrShift2 := by
  unfold afterPull
  split <;> simp

theorem acts_keeps_agrees {s t : State} (h : Agrees s) (ha : EngineActs s t) : Agrees t := by
  cases ha with
  | unstarted | lineStillLow | lineStillHigh | heldByteWaits | pullStalls => exact h
  | delay => exact { h with }
  | rdEntry hc hq | lineHigh hc hq | fallingEdge hc hq | sample hc hq | sampleLast hc hq
  | overrun hc hq | heldByteDelivered hc hq =>
    obtain ⟨h0, hd⟩ := h.read (by simp [hq, readMode])
    have h8 : s.isrCnt = 8 → s.cursor = .rdPushStall := h.held
    apply agrees_of_read <;> simp_all [readMode]
  | toRead hc hq =>
    obtain ⟨hi, -⟩ := h.write (by simp [hq, writeMode, readMode])
    apply agrees_of_read <;> simp [readMode, hi, h.spent, hq, windowSpent]
  | @takesWord hc hp w rest hw =>
    obtain ⟨hm, hne⟩ := writeMode_of_pulls hp
    obtain ⟨hi, hd⟩ := h.write hm
    have hcur : (takeWord w s).cursor = afterPull s.cursor := rfl
    obtain hq | hq := afterPull_cases s.cursor <;> rw [hq] at hcur <;>
      exact agrees_of_write (by simp [hcur, writeMode, readMode]) hi
        (fun _ => by simp [takeWord, outWindow])
        (by simp [hcur, windowSpent]) (fun _ => hd hne)
  | windowGoesOn hc hq hn =>
    obtain ⟨hi, hd⟩ := h.write (by simp [hq, writeMode, readMode])
    exact agrees_of_write rfl hi (fun _ => Nat.one_le_iff_ne_zero.mpr hn) nofun
      (fun _ => hd (by simp [hq]))
  | wrEntry hc hq =>
    obtain ⟨hi, -⟩ := h.write (by simp [hq, writeMode, readMode])
    exact agrees_of_write rfl hi nofun nofun (fun _ => rfl)
  | wrHigh hc hq | shift hc hq | shift2 hc hq | dataBit hc hq | jmpFast hc hq | padBit hc hq
  | padFast hc hq | dataCell hc hq | value hc hq | nextCell hc hq =>
    obtain ⟨hi, hd⟩ := h.write (by simp [hq, writeMode, readMode])
    exact agrees_of_write rfl hi nofun nofun (fun _ => hd (by simp [hq]))
  | ninthBit hc hq hn =>
    obtain ⟨hi, hd⟩ := h.write (by simp [hq, writeMode, readMode])
    exact agrees_of_write rfl hi nofun (fun _ => hn) (fun _ => hd (by simp [hq]))
  | lastByte hc hq | moreBytes hc hq | padStop hc hq | stopCell hc hq | stopHigh hc hq =>
    obtain ⟨hi, hd⟩ := h.write (by simp [hq, writeMode, readMode])
    exact agrees_of_write rfl hi nofun (fun _ => h.spent (by simp [hq, windowSpent]))
      (fun _ => hd (by simp [hq]))

theorem acts_keeps_engineOk {s t : State} (h : EngineOk s) (ha : EngineActs s t) : EngineOk t := by
  obtain ⟨hb, hg⟩ := engineOk_iff.mp h
  exact engineOk_iff.mpr ⟨acts_keeps_bounded hb hg ha, acts_keeps_agrees hg ha⟩

/-- Before `init` nothing acts (R54). -/
theorem acts_unstarted {s t : State} (hu : s.cursor = .unstarted) (ha : EngineActs s t) :
    t = s := by
  have h := ha.move.symm.trans (EngineActs.unstarted hu).move
  exact Host.Outcome.next.inj h

/-- No action of the engine goes back to before `init`. -/
theorem acts_started {s t : State} (hu : s.cursor ≠ .unstarted) (ha : EngineActs s t) :
    t.cursor ≠ .unstarted := by
  cases ha with
  | @takesWord hc hp w rest hw =>
    have hcur : (takeWord w s).cursor = afterPull s.cursor := rfl
    obtain hq | hq := afterPull_cases s.cursor <;> simp [hcur, hq]
  | unstarted | delay | lineStillLow | lineStillHigh | heldByteWaits | pullStalls => exact hu
  | _ => simp

theorem acts_keeps_host {s t : State} (ha : EngineActs s t) : t.host = s.host := by
  cases ha <;> rfl

theorem step_engine_keeps_engineInv {s t : State} (ht : turn s = .engine) (hi : EngineInv s)
    (h : step s = .next t) : EngineInv t := by
  obtain ⟨u, ha, rfl⟩ := step_engine_cases ht h
  by_cases hu : s.cursor = .unstarted
  · obtain rfl := acts_unstarted hu ha
    exact hi
  · have hinv : EngineInv u :=
      ⟨fun hc => absurd hc (acts_started hu ha), fun _ => acts_keeps_engineOk (hi.2 hu) ha⟩
    exact hinv

/-! ## The host -/

/-- The invariant of the registers speaks of the hardware alone. -/
theorem engineOk_congr {s t : State} (h : hardware t = hardware s) : EngineOk t ↔ EngineOk s := by
  have hh : EngineOk (hardware t) ↔ EngineOk (hardware s) := by rw [h]
  exact hh

theorem dropRxq_engineOk {s : State} (h : EngineOk s) : EngineOk (dropRxq s) := by
  obtain ⟨hb, hg⟩ := engineOk_iff.mp h
  have hlen : (dropRxq s).rxq.length ≤ s.rxq.length := by simp
  exact engineOk_iff.mpr ⟨{ hb with rxq := hlen.trans hb.rxq }, { hg with }⟩

theorem pushTxq_engineOk {w : Word} {s : State} (h : EngineOk s) (hr : txFull s = false) :
    EngineOk (pushTxq w s) := by
  obtain ⟨hb, hg⟩ := engineOk_iff.mp h
  have hq := pushTxq_queuesBounded (w := w) ⟨hb.rxq, hb.txq⟩ hr
  exact engineOk_iff.mpr ⟨{ hb with txq := hq.2 }, { hg with }⟩

/-- A restart leaves every register in its bound, in whatever state it finds them (R222, R223). -/
theorem restartAt_engineOk {c : Cursor} {s : State} (hk : configOk s.cfg = true)
    (hc : c = .rdEntry ∨ c = .wrEntry) : EngineOk (restartAt c s) := by
  refine engineOk_iff.mpr ⟨⟨hk, by simp, by simp, by simp, by simp, by simp, by simp⟩, ?_⟩
  obtain rfl | rfl := hc
  · exact agrees_of_read rfl nofun rfl (fun hne => absurd rfl hne)
  · exact agrees_of_write rfl rfl nofun nofun (fun hne => absurd rfl hne)

theorem initTransport_engineOk {s : State} (hk : configOk s.cfg = true) :
    EngineOk (initTransport s) :=
  restartAt_engineOk
    (s := { s with dir := .input, pinOut := true, phase := .noSession, owned := false })
    hk (.inl rfl)

theorem invoke_init {s t : State} (h : invoke .init s = .next t) :
    configOk s.cfg = true ∧ t = returnWith .transport (initTransport s) := by
  simp only [invoke] at h
  split_ifs at h with hk
  cases h
  exact ⟨hk, rfl⟩

/-- Before `init` the host waits outside every operation, and only `init` ends that (R363). -/
theorem hostMove_unstarted_keeps_engineInv {s t : State} (hu : s.cursor = .unstarted)
    (hi : EngineInv s) (h : hostMove s = .next t) : EngineInv t := by
  obtain ⟨-, rfl⟩ | ⟨op, rest, -, hn | rfl, hop⟩ := hostMove_outside_cases (hi.1 hu) h
  · exact hi
  · exact absurd hu hn
  · obtain ⟨hk, rfl⟩ := invoke_init hop
    exact ⟨nofun, fun _ => initTransport_engineOk (s := { s with calls := rest }) hk⟩

/-- Once started, a host move leaves the hardware in the invariant, whichever of its five effects it
has. -/
theorem hostMove_started_keeps_engineInv {s t : State} (hu : s.cursor ≠ .unstarted)
    (hi : EngineInv s) (h : hostMove s = .next t) : EngineInv t := by
  have hs : EngineOk s := hi.2 hu
  have hv : ∃ v, hardware t = hardware v ∧ EngineOk v ∧ v.cursor ≠ .unstarted := by
    obtain he | ⟨b, rest, -, he⟩ | ⟨w, hr, he⟩ | ⟨c, hc, -, he⟩ | ⟨-, hk, he⟩ := hostMove_reach h
    · exact ⟨_, he, hs, hu⟩
    · exact ⟨_, he, dropRxq_engineOk hs, hu⟩
    · exact ⟨_, he, pushTxq_engineOk hs hr, hu⟩
    · exact ⟨_, he, restartAt_engineOk hs.1 hc, by obtain rfl | rfl := hc <;> simp⟩
    · exact ⟨_, he, initTransport_engineOk hk, nofun⟩
  obtain ⟨v, he, hok, hvu⟩ := hv
  have hcur : t.cursor = v.cursor := (congrArg State.cursor he :)
  exact ⟨fun htu => absurd (hcur.symm.trans htu) hvu, fun _ => (engineOk_congr he).mpr hok⟩

/-! ## One step -/

/-- Settles O32: each agent's turn keeps the invariant. -/
theorem everyStepKeepsTheEngineInvariant : Obligations.EveryStepKeepsTheEngineInvariant := by
  intro s t hi h
  cases ht : turn s with
  | engine => exact step_engine_keeps_engineInv ht hi h
  | host =>
    obtain ⟨u, hu, rfl⟩ := step_host_cases ht h
    have hinv : EngineInv u := by
      by_cases hst : s.cursor = .unstarted
      · exact hostMove_unstarted_keeps_engineInv hst hi hu
      · exact hostMove_started_keeps_engineInv hst hi hu
    exact hinv

theorem hostMove_ne_fault {s : State} {f : Fault} : hostMove s ≠ .fault f := by
  by_cases hd : ∃ b, s.host = .dispatch b
  · obtain ⟨b, hb⟩ := hd
    obtain ⟨-, he⟩ | ⟨-, he⟩ | ⟨-, -, he⟩ := hostMove_dispatch_cases hb <;> simp [he]
  · rw [hostMove_of_not_dispatch (not_exists.mp hd)]
    exact hostAct_ne_fault

/-- Settles O34: the one fault is a shift of a spent window, and the invariant has a bit left
there. -/
theorem noStepFaultsUnderTheInvariant : Obligations.NoStepFaultsUnderTheInvariant := by
  intro s f hi h
  cases ht : turn s with
  | host =>
    rw [step_of_host ht, onNext_eq_fault] at h
    exact hostMove_ne_fault h
  | engine =>
    rw [step_of_engine ht, onNext_eq_fault] at h
    obtain ⟨t, he, -⟩ | ⟨-, hc, hq, hn⟩ := engineMove_total s
    · cases he.symm.trans h
    · have hu : s.cursor ≠ .unstarted := by obtain hq | hq := hq <;> simp [hq]
      have hleft := (engineOk_iff.mp (hi.2 hu)).2.shift hq
      omega

/-- Settles O31: both invariants are decided at reset. -/
theorem resetMeetsTheInvariants : Obligations.ResetMeetsTheInvariants := by
  unfold Obligations.ResetMeetsTheInvariants
  decide

end Sys2Proof.Proofs.EngineInvariant
end

section
/-! What a step leaves unchanged (10_state.md R44, R55; 20_memory.md R94; 40_signal_engine.md
R162). The engine's half is read off the actions of `EngineActs`, the host's off its five effects
`HostReach`. -/

open Sys2Proof Sys2Proof.Machine

namespace Sys2Proof.Proofs.Frames

open Moves HostMoves LineDirection EngineInvariant

/-! ## What the engine leaves -/

/-- What belongs to the host, the caller and the environment. -/
def besideEngine (s : State) :
    Phase × Nat × Bool × HostPos × Snapshot × List Call × Option Result × Config × Nat × Nat ×
      List Drive × ConsoleRest :=
  (s.phase, s.timeout, s.owned, s.host, s.snapshot, s.calls, s.result, s.cfg, s.now, s.tick,
    s.console, s.consoleRest)

theorem acts_keeps_besideEngine {s t : State} (ha : EngineActs s t) :
    besideEngine t = besideEngine s := by
  cases ha <;> rfl

theorem acts_keeps_contention {s t : State} (ha : EngineActs s t) :
    t.contention = s.contention := by
  cases ha <;> rfl

/-- Settles O43: no action touches the host's side, and the close of the cycle moves the
environment on. -/
theorem engineCycleLeavesTheSessionAlone : Obligations.EngineCycleLeavesTheSessionAlone := by
  intro s t h ht
  obtain ⟨u, ha, rfl⟩ := step_engine_cases ht h
  have hk := acts_keeps_besideEngine ha
  simp only [besideEngine, Prod.mk.injEq] at hk
  obtain ⟨h1, h2, h3, h4, h5, h6, h7, h8, h9, h10, h11, h12⟩ := hk
  simp [h1, h2, h3, h4, h5, h6, h7, h8, h9, h10, h11, h12]

/-! ## What the host leaves -/

/-- What no host move writes. -/
def beyondHost (s : State) :
    Word × Bool × Nat × Nat × List Drive × ConsoleRest × Config × Bool × Bool :=
  (s.osr, s.xbit, s.now, s.tick, s.console, s.consoleRest, s.cfg, s.rxOverrun, s.contention)

/-- The registers a host move writes only by a restart. -/
def engineRegisters (s : State) : Cursor × Nat × Byte × Nat × Nat × Direction × Bool :=
  (s.cursor, s.ctr, s.isr, s.isrCnt, s.osrCnt, s.dir, s.pinOut)

/-- A part of the hardware is the same in two states of the same hardware. -/
theorem read_hardware {α : Type} {x : α} {s t : State} (f : State → α)
    (h : hardware t = hardware s) (hf : ∀ u, f (hardware u) = f u := by exact fun _ => rfl)
    (hx : f s = x := by rfl) : f t = x := by
  rw [← hf t, h, hf s, hx]

theorem reach_keeps_beyondHost {s t : State} (h : HostReach s t) : beyondHost t = beyondHost s := by
  cases h with
  | keeps h => exact read_hardware beyondHost h
  | takesByte b rest hx h => exact read_hardware beyondHost h
  | queuesWord w hr h => exact read_hardware beyondHost h
  | restarts c hc hu h => exact read_hardware beyondHost h
  | inits hi hk h => exact read_hardware beyondHost h

/-- The engine's registers after a host move: as they were, or those of a restart, with the
direction and the pin written by `init` alone. -/
theorem reach_engineRegisters {s t : State} (h : HostReach s t) :
    engineRegisters t = engineRegisters s ∨
    ∃ c d v, (c = .rdEntry ∨ c = .wrEntry) ∧ engineRegisters t = (c, 0, 0, 0, 0, d, v) ∧
      t.rxq = [] ∧ t.txq = [] ∧
      (d = s.dir ∧ v = s.pinOut ∨ TakesInit s ∧ c = .rdEntry ∧ d = .input ∧ v = true) := by
  cases h with
  | keeps h => exact .inl (read_hardware engineRegisters h)
  | takesByte b rest hx h => exact .inl (read_hardware engineRegisters h)
  | queuesWord w hr h => exact .inl (read_hardware engineRegisters h)
  | restarts c hc hu h =>
    exact .inr ⟨c, s.dir, s.pinOut, hc, read_hardware engineRegisters h,
      read_hardware State.rxq h, read_hardware State.txq h, .inl ⟨rfl, rfl⟩⟩
  | inits hi hk h =>
    exact .inr ⟨.rdEntry, .input, true, .inl rfl, read_hardware engineRegisters h,
      read_hardware State.rxq h, read_hardware State.txq h, .inr ⟨hi, rfl, rfl, rfl⟩⟩

/-- Settles O42: the two projections of the hardware, read at each register. -/
theorem hostReachesTheEngineOnlyByRestart : Obligations.HostReachesTheEngineOnlyByRestart := by
  intro s t h ht
  have hr := step_host_reach ht h
  have hb := reach_keeps_beyondHost hr
  simp only [beyondHost, Prod.mk.injEq] at hb
  obtain ⟨h1, h2, h3, h4, h5, h6, h7, h8, h9⟩ := hb
  refine ⟨h1, h2, h3, h4, h5, h6, h7, h8, h9, ?_⟩
  obtain he | ⟨c, d, v, hc, he, hrx, htx, hd⟩ := reach_engineRegisters hr <;>
    simp only [engineRegisters, Prod.mk.injEq] at he <;>
    obtain ⟨hq, hctr, hisr, hcnt, hosr, hdir, hpin⟩ := he
  · exact .inl ⟨hq, hctr, hisr, hcnt, hosr, hdir, hpin⟩
  · refine .inr ⟨by rwa [hq], hctr, hisr, hcnt, hosr, hrx, htx, ?_⟩
    obtain ⟨rfl, rfl⟩ | ⟨⟨ho, hi⟩, -, rfl, rfl⟩ := hd
    · exact .inl ⟨hdir, hpin⟩
    · exact .inr ⟨ho, hi, hdir, hpin⟩

/-! ## The queues -/

theorem acts_queues {s t : State} (ha : EngineActs s t) :
    (t.rxq = s.rxq ∨ ∃ b : Byte, t.rxq = s.rxq ++ [b]) ∧
    (t.txq = s.txq ∨ ∃ w : Word, s.txq = w :: t.txq) := by
  cases ha with
  | sampleLast | heldByteDelivered => exact ⟨.inr ⟨_, rfl⟩, .inl rfl⟩
  | @takesWord hc hp w rest hw => exact ⟨.inl rfl, .inr ⟨w, by simp [takeWord, hw]⟩⟩
  | _ => exact ⟨.inl rfl, .inl rfl⟩

theorem reach_queues {s t : State} (h : HostReach s t) :
    (t.rxq = [] ∧ t.txq = [] ∧ (t.cursor = .rdEntry ∨ t.cursor = .wrEntry)) ∨
    ((t.rxq = s.rxq ∨ ∃ b : Byte, s.rxq = b :: t.rxq) ∧
      (t.txq = s.txq ∨ ∃ w : Word, t.txq = s.txq ++ [w])) := by
  cases h with
  | keeps h =>
    exact .inr ⟨.inl (read_hardware State.rxq h),
      .inl (read_hardware State.txq h)⟩
  | takesByte b rest hx h =>
    have hrx : t.rxq = s.rxq.tail := read_hardware State.rxq h
    exact .inr ⟨.inr ⟨b, by simp [hrx, hx]⟩, .inl (read_hardware State.txq h)⟩
  | queuesWord w hr h =>
    exact .inr ⟨.inl (read_hardware State.rxq h),
      .inr ⟨w, read_hardware State.txq h⟩⟩
  | restarts c hc hu h =>
    have hq : t.cursor = c := read_hardware State.cursor h
    exact .inl ⟨read_hardware State.rxq h,
      read_hardware State.txq h, by rwa [hq]⟩
  | inits hi hk h =>
    exact .inl ⟨read_hardware State.rxq h,
      read_hardware State.txq h,
      .inl (read_hardware State.cursor h)⟩

/-- Settles O41: each agent's actions work at one end of each queue. -/
theorem queuesAreFirstInFirstOut : Obligations.QueuesAreFirstInFirstOut := by
  intro s t h
  refine ⟨fun ht => ?_, fun ht => reach_queues (step_host_reach ht h)⟩
  obtain ⟨u, ha, rfl⟩ := step_engine_cases ht h
  have hq := acts_queues ha
  exact hq

/-! ## The modes -/

/-- The engine by itself does not leave read mode. -/
theorem acts_keeps_readMode {s t : State} (hr : readMode s.cursor = true) (ha : EngineActs s t) :
    readMode t.cursor = true := by
  cases ha with
  | unstarted | delay | lineStillLow | lineStillHigh | heldByteWaits | pullStalls => exact hr
  | @takesWord hc hp =>
    have hw := (writeMode_of_pulls hp).1
    simp [writeMode, hr] at hw
  | rdEntry | lineHigh | fallingEdge | sample | sampleLast | overrun | heldByteDelivered | toRead =>
    rfl
  | _ => simp_all [readMode]

/-- The engine leaves write mode only in `WR_TO_READ` (R186). -/
theorem acts_writeMode {s t : State} (hw : writeMode s.cursor = true) (ha : EngineActs s t) :
    readMode t.cursor = false ∨ (s.ctr = 0 ∧ s.cursor = .wrToRead ∧ t = goTo .rdEntry s) := by
  have hr : readMode s.cursor = false := by
    cases hr : readMode s.cursor with
    | false => rfl
    | true => simp [writeMode, hr] at hw
  cases ha with
  | unstarted | delay | lineStillLow | lineStillHigh | heldByteWaits | pullStalls => exact .inl hr
  | toRead hc hq => exact .inr ⟨hc, hq, rfl⟩
  | @takesWord hc hp w rest hx =>
    have hcur : (takeWord w s).cursor = afterPull s.cursor := rfl
    obtain hq | hq := afterPull_cases s.cursor <;> exact .inl (by rw [hcur, hq]; rfl)
  | rdEntry hc hq | lineHigh hc hq | fallingEdge hc hq | sample hc hq | sampleLast hc hq
  | overrun hc hq | heldByteDelivered hc hq => simp [hq, readMode] at hr
  | _ => exact .inl rfl

/-- Settles O40: what is left are the restarts, which place the cursor at an entry, and
`WR_TO_READ`. -/
theorem modesChangeOnlyByRestartOrAfterAStopCell :
    Obligations.ModesChangeOnlyByRestartOrAfterAStopCell := by
  intro s t h
  cases ht : turn s with
  | engine =>
    obtain ⟨u, ha, rfl⟩ := step_engine_cases ht h
    refine ⟨fun hr hw => ?_, fun hw hr => ?_⟩
    · have hr' := acts_keeps_readMode hr ha
      simp [writeMode, hr'] at hw
    · obtain hn | ⟨hc, hq, rfl⟩ := acts_writeMode hw ha
      · exact absurd (hn.symm.trans hr) (by decide)
      · exact ⟨rfl, .inr ⟨rfl, hc, hq, rfl, rfl⟩⟩
  | host =>
    obtain he | ⟨c, d, v, hc, he, hrx, htx, -⟩ := reach_engineRegisters (step_host_reach ht h) <;>
      simp only [engineRegisters, Prod.mk.injEq] at he <;>
      obtain ⟨hq, hctr, hisr, hcnt, hosr, -⟩ := he
    · rw [hq]
      refine ⟨fun hr hw => ?_, fun hw hr => ?_⟩ <;> simp [writeMode, hr] at hw
    · rw [hq]
      refine ⟨fun _ hw => ?_, fun _ hr => ?_⟩
      · obtain rfl | rfl := hc
        · cases hw
        · exact ⟨rfl, rfl, hrx, htx, hisr, hcnt, hosr, hctr⟩
      · obtain rfl | rfl := hc
        · exact ⟨rfl, .inl ⟨rfl, hrx, htx, hisr, hcnt, hosr, hctr⟩⟩
        · cases hr

/-! ## The sticky flags -/

/-- The eighth bit is in and RXQ is full: what marks the overrun (R168). -/
def Overruns (s : State) : Prop :=
  s.ctr = 0 ∧ s.cursor = .rdSample ∧ s.isrCnt = 7 ∧ s.cfg.qdepth ≤ s.rxq.length

theorem acts_rxOverrun {s t : State} (ha : EngineActs s t) :
    t.rxOverrun = true ↔ s.rxOverrun = true ∨ Overruns s := by
  cases ha with
  | overrun hc hq h7 hr => simp [Overruns, hc, hq, h7, rxFull_iff.mp hr]
  | sample hc hq h7 => simp [Overruns, h7]
  | sampleLast hc hq h7 hr =>
    have hroom : ¬ s.cfg.qdepth ≤ s.rxq.length := by simpa [rxFull] using hr
    simp [Overruns, hroom]
  | delay hq hc => simp [Overruns, hc]
  | takesWord hc hp | pullStalls hc hp =>
    obtain ⟨hq, -⟩ | hq := hp <;> simp [Overruns, takeWord, hq]
  | unstarted hq => simp [Overruns, hq]
  | rdEntry hc hq | lineHigh hc hq | lineStillLow hc hq | lineStillHigh hc hq | fallingEdge hc hq
  | heldByteWaits hc hq | heldByteDelivered hc hq | wrEntry hc hq | wrHigh hc hq
  | windowGoesOn hc hq | shift hc hq | shift2 hc hq | dataBit hc hq | ninthBit hc hq
  | lastByte hc hq | moreBytes hc hq | jmpFast hc hq | padBit hc hq | padFast hc hq
  | dataCell hc hq | value hc hq | nextCell hc hq | padStop hc hq | stopCell hc hq
  | stopHigh hc hq | toRead hc hq => simp [Overruns, hq]

/-- Settles O36: the host writes neither flag, one action of the engine marks the overrun, and the
close of the cycle marks the contention. -/
theorem stickyFlagsAreSetExactlyAndNeverCleared :
    Obligations.StickyFlagsAreSetExactlyAndNeverCleared := by
  intro s t h
  cases ht : turn s with
  | host =>
    have hb := reach_keeps_beyondHost (step_host_reach ht h)
    simp only [beyondHost, Prod.mk.injEq] at hb
    obtain ⟨-, -, -, -, -, -, -, hov, hcl⟩ := hb
    simp [hov, hcl]
  | engine =>
    obtain ⟨u, ha, rfl⟩ := step_engine_cases ht h
    have hov := acts_rxOverrun ha
    simp [acts_keeps_contention ha, clash_iff, hov, Overruns]

end Sys2Proof.Proofs.Frames
end

section
/-! What nothing examines (10_state.md R37, R44; 30_encoding.md R128). A step looks at a state
only through a lawful veil: the state seen through the veil steps to what the step looks like
through it (`step_looksAlike`). The sticky flags are one such veil, the ignored bits of words and
of `osr` another. -/

open Sys2Proof Sys2Proof.Machine

namespace Sys2Proof.Proofs.Noninterference

open Moves HostMoves LineDirection

/-! ## Veils -/

/-- What a veil must leave for the machine to run alike: hiding twice is hiding once, a refill
shows the window of the word, a shift shows the bit it takes, and a flag set stays set. -/
structure Lawful (v : Veil) : Prop where
  word_word : ∀ w, v.word (v.word w) = v.word w
  window_window : ∀ {m n} o, n ≤ m → v.window n (v.window m o) = v.window n o
  window_word : ∀ w, v.window 9 (v.word w) = v.window 9 w
  window_shift : ∀ n o, v.window n (v.window (n + 1) o <<< 1) = v.window n (o <<< 1)
  window_top : ∀ n o, (v.window (n + 1) o).getLsbD 31 = o.getLsbD 31
  flag_or : ∀ a b, v.flag (v.flag a || b) = v.flag (a || b)

section
variable {v : Veil}

theorem map_word_hidden (hv : Lawful v) (q : List Word) :
    (q.map v.word).map v.word = q.map v.word := by
  simp [hv.word_word]

theorem flag_hidden (hv : Lawful v) (a : Bool) : v.flag (v.flag a) = v.flag a := by
  simpa using hv.flag_or a false

theorem hide_hide (hv : Lawful v) (s : State) : v.hide (v.hide s) = v.hide s := by
  simp only [Veil.hide, hv.window_window _ le_rfl, map_word_hidden hv, flag_hidden hv]

/-- A session operation looks alike on a state and on what shows of it. -/
theorem hide_sessionOp (hv : Lawful v) {f : State → State} (hf : SessionOp f) (s : State) :
    v.hide (f (v.hide s)) = v.hide (f s) := by
  rw [hf.hides, hide_hide hv, hf.hides]

/-- The same after an operation that looks alike. -/
theorem hide_comp_sessionOp {f g : State → State} (hf : SessionOp f) {s : State}
    (hg : v.hide (g (v.hide s)) = v.hide (g s)) : v.hide (f (g (v.hide s))) = v.hide (f (g s)) := by
  rw [hf.hides, hg, hf.hides]

/-! ## What shows -/

@[simp] theorem hide_cursor (s : State) : (v.hide s).cursor = s.cursor := rfl
@[simp] theorem hide_ctr (s : State) : (v.hide s).ctr = s.ctr := rfl
@[simp] theorem hide_osrCnt (s : State) : (v.hide s).osrCnt = s.osrCnt := rfl
@[simp] theorem hide_isrCnt (s : State) : (v.hide s).isrCnt = s.isrCnt := rfl
@[simp] theorem hide_xbit (s : State) : (v.hide s).xbit = s.xbit := rfl
@[simp] theorem hide_cfg (s : State) : (v.hide s).cfg = s.cfg := rfl
@[simp] theorem hide_host (s : State) : (v.hide s).host = s.host := rfl
@[simp] theorem hide_calls (s : State) : (v.hide s).calls = s.calls := rfl
@[simp] theorem hide_phase (s : State) : (v.hide s).phase = s.phase := rfl
@[simp] theorem hide_owned (s : State) : (v.hide s).owned = s.owned := rfl
@[simp] theorem hide_rxq (s : State) : (v.hide s).rxq = s.rxq := rfl
@[simp] theorem hide_txq (s : State) : (v.hide s).txq = s.txq.map v.word := rfl
@[simp] theorem hide_now (s : State) : (v.hide s).now = s.now := rfl
@[simp] theorem hide_line (s : State) : line (v.hide s) = line s := rfl
@[simp] theorem hide_clash (s : State) : clash (v.hide s) = clash s := rfl
@[simp] theorem hide_rxFull (s : State) : rxFull (v.hide s) = rxFull s := rfl
@[simp] theorem hide_expired (n t0 : Nat) (s : State) :
    expired n t0 (v.hide s) = expired n t0 s := rfl
@[simp] theorem hide_started (s : State) : started (v.hide s) = started s := rfl
@[simp] theorem hide_secondThreadCalls (s : State) :
    secondThreadCalls (v.hide s) = secondThreadCalls s := rfl
@[simp] theorem hide_txFull (s : State) : txFull (v.hide s) = txFull s := by simp [txFull]

theorem hide_hostReady (s : State) : hostReady (v.hide s) = hostReady s := by
  simp only [hostReady, hide_secondThreadCalls, hide_host, hide_txFull]
  rfl

theorem hide_turn (s : State) : turn (v.hide s) = turn s := by
  have hs : (v.hide s).sched = s.sched := rfl
  simp [turn, hide_hostReady, hs]

/-! ## The host -/

theorem hide_dropRxq (hv : Lawful v) (s : State) :
    v.hide (dropRxq (v.hide s)) = v.hide (dropRxq s) := hide_hide hv (dropRxq s)

theorem hide_pushTxq (hv : Lawful v) (w : Word) (s : State) :
    v.hide (pushTxq w (v.hide s)) = v.hide (pushTxq w s) := by
  simp [pushTxq, Veil.hide, hv.window_window, hv.word_word, flag_hidden hv]

theorem hide_restartAt (hv : Lawful v) (c : Cursor) (s : State) :
    v.hide (restartAt c (v.hide s)) = v.hide (restartAt c s) := by
  simp [restartAt, Veil.hide, hv.window_window, flag_hidden hv]

theorem hide_initTransport (hv : Lawful v) (s : State) :
    v.hide (initTransport (v.hide s)) = v.hide (initTransport s) :=
  hide_restartAt hv .rdEntry
    { s with dir := .input, pinOut := true, phase := .noSession, owned := false }

theorem hide_stepTestQueue (hv : Lawful v) (n t0 : Nat) (k : RecvFor) (s : State) :
    v.hide (stepTestQueue n t0 k (v.hide s)) = v.hide (stepTestQueue n t0 k s) := by
  cases hx : s.rxq with
  | nil => simpa [stepTestQueue, hx] using hide_sessionOp hv (hostAt_sessionOp _) s
  | cons b rest =>
    simpa [stepTestQueue, hx] using
      hide_comp_sessionOp (receivedByte_sessionOp b k) (hide_dropRxq hv s)

theorem hide_stepTestClock (hv : Lawful v) (n t0 : Nat) (k : RecvFor) (s : State) :
    v.hide (stepTestClock n t0 k (v.hide s)) = v.hide (stepTestClock n t0 k s) := by
  cases he : expired n t0 s with
  | true => simpa [stepTestClock, he] using hide_sessionOp hv (receivedNothing_sessionOp k) s
  | false => simpa [stepTestClock, he] using hide_sessionOp hv (hostAt_sessionOp _) s

theorem hide_stepWaitLine (hv : Lawful v) (p : List Byte) (k : SendFor) (s : State) :
    v.hide (stepWaitLine p k (v.hide s)) = v.hide (stepWaitLine p k s) := by
  cases hl : line s with
  | true => simpa [stepWaitLine, hl] using hide_sessionOp hv (hostAt_sessionOp _) s
  | false => simpa [stepWaitLine, hl] using hide_hide hv s

theorem hide_stepPush (hv : Lawful v) (p : List Byte) (i : Nat) (k : SendFor) (s : State) :
    v.hide (stepPush p i k (v.hide s)) = v.hide (stepPush p i k s) := by
  unfold stepPush
  cases p[i]? with
  | none => exact hide_sessionOp hv (sendReturns_sessionOp k) s
  | some b =>
    simp only [hide_txFull]
    split_ifs
    · exact hide_hide hv s
    · exact hide_comp_sessionOp (sendReturns_sessionOp k) (hide_pushTxq hv _ s)
    · exact hide_comp_sessionOp (hostAt_sessionOp _) (hide_pushTxq hv _ s)

theorem hide_leaveErrorRecovery (hv : Lawful v) (k : RecoverFor) (s : State) :
    v.hide (leaveErrorRecovery k (v.hide s)) = v.hide (leaveErrorRecovery k s) := by
  cases k with
  | handshake => exact hide_comp_sessionOp returnSession_sessionOp (hide_restartAt hv .rdEntry s)
  | waitForPoll => exact hide_comp_sessionOp listenAgain_sessionOp (hide_restartAt hv .rdEntry s)

/-- The outcomes of `f` on a state and on what shows of it look alike. -/
def LooksAlike (v : Veil) (f : State → StepOutcome) (s : State) : Prop :=
  onNext v.hide (f (v.hide s)) = onNext v.hide (f s)

theorem LooksAlike.next {s : State} {f : State → State} (h : v.hide (f (v.hide s)) = v.hide (f s)) :
    LooksAlike v (fun s => .next (f s)) s := congrArg Host.Outcome.next h

theorem LooksAlike.refused (s : State) (r : Refusal) : LooksAlike v (fun _ => .refused r) s := rfl

/-- A test of what shows decides alike. -/
theorem LooksAlike.ite {s : State} {p : State → Prop} [∀ u, Decidable (p u)]
    {f g : State → StepOutcome}
    (hp : p (v.hide s) ↔ p s) (hf : LooksAlike v f s) (hg : LooksAlike v g s) :
    LooksAlike v (fun u => if p u then f u else g u) s := by
  by_cases h : p s
  · simpa only [LooksAlike, if_pos h, if_pos (hp.mpr h)] using hf
  · simpa only [LooksAlike, if_neg h, if_neg (mt hp.mp h)] using hg

theorem invoke_looksAlike (hv : Lawful v) (op : HostOp) (s : State) :
    LooksAlike v (invoke op) s := by
  cases op with
  | init =>
    exact .ite Iff.rfl
      (.next (hide_comp_sessionOp (returnWith_sessionOp _) (hide_initTransport hv s)))
      (.refused s _)
  | restartForRead =>
    exact .ite Iff.rfl (.refused s _)
      (.next (hide_comp_sessionOp (returnWith_sessionOp _) (hide_restartAt hv .rdEntry s)))
  | restartForWrite =>
    exact .ite Iff.rfl (.refused s _)
      (.next (hide_comp_sessionOp (returnWith_sessionOp _) (hide_restartAt hv .wrEntry s)))
  | receiveByte n =>
    exact .ite Iff.rfl (.refused s _) (.next (hide_sessionOp hv (hostAt_sessionOp _) s))
  | sendBytes p =>
    exact .ite Iff.rfl (.refused s _)
      (.ite Iff.rfl (.refused s _) (.next (hide_sessionOp hv (beginSend_sessionOp _ _) s)))
  | handshake n p =>
    exact .ite Iff.rfl (.refused s _) (.next (hide_hide hv (beginReceive .handshake
      { s with phase := .handshaking, timeout := n, snapshot := p })))
  | waitForPoll =>
    exact .ite Iff.rfl (.next (hide_sessionOp hv (beginReceive_sessionOp _) s)) (.refused s _)
  | respondToPoll p =>
    exact .ite Iff.rfl (.next (hide_hide hv (delayUs dPollPre .discards
      { s with phase := .respondingPoll, snapshot := p }))) (.refused s _)

theorem takeCall_looksAlike (hv : Lawful v) (op : HostOp) (s : State) :
    LooksAlike v (takeCall op) s :=
  .ite Iff.rfl (invoke_looksAlike hv op s) (.refused s _)

theorem hostAdvance_looksAlike (hv : Lawful v) (s : State) : LooksAlike v hostAdvance s := by
  unfold LooksAlike
  cases hh : s.host <;> simp only [hostAdvance, hide_host, hh]
  case outside =>
    rw [hide_calls]
    cases hc : s.calls with
    | nil => exact congrArg Host.Outcome.next (hide_hide hv s)
    | cons c rest => exact takeCall_looksAlike hv c.op { s with calls := rest }
  case readTick n k => exact congrArg Host.Outcome.next (hide_sessionOp hv (hostAt_sessionOp _) s)
  case testQueue n t0 k => exact congrArg Host.Outcome.next (hide_stepTestQueue hv n t0 k s)
  case testClock n t0 k => exact congrArg Host.Outcome.next (hide_stepTestClock hv n t0 k s)
  case dispatch b => exact congrArg Host.Outcome.next (hide_hide hv s)
  case delay n k =>
    rw [hide_now]
    split_ifs
    · exact congrArg Host.Outcome.next (hide_hide hv s)
    · exact congrArg Host.Outcome.next (hide_sessionOp hv (delayReturns_sessionOp k) s)
  case waitLine p k => exact congrArg Host.Outcome.next (hide_stepWaitLine hv p k s)
  case restartWrite p k =>
    exact congrArg Host.Outcome.next
      (hide_comp_sessionOp (hostAt_sessionOp _) (hide_restartAt hv .wrEntry s))
  case push p i k => exact congrArg Host.Outcome.next (hide_stepPush hv p i k s)
  case recoverRestart k => exact congrArg Host.Outcome.next (hide_leaveErrorRecovery hv k s)

theorem hostMove_looksAlike (hv : Lawful v) (s : State) : LooksAlike v hostMove s := by
  unfold LooksAlike
  by_cases hd : ∃ b, s.host = .dispatch b
  · obtain ⟨b, hb⟩ := hd
    obtain ⟨hp, he⟩ | ⟨hp, he⟩ | ⟨h1, h2, he⟩ := hostMove_dispatch_cases hb
    · rw [he, (hostMove_of_dispatch (s := v.hide s) hb).1 hp, exec_decodeHandshaking]
      exact congrArg Host.Outcome.next (hide_sessionOp hv (handshakeResponse_sessionOp _) s)
    · rw [he, (hostMove_of_dispatch (s := v.hide s) hb).2.1 hp, exec_decodeIdle]
      exact congrArg Host.Outcome.next (hide_sessionOp hv (loopResponse_sessionOp _) s)
    · rw [he, (hostMove_of_dispatch (s := v.hide s) hb).2.2 h1 h2]
  · rw [hostMove_of_not_dispatch (not_exists.mp hd),
      hostMove_of_not_dispatch (s := v.hide s) (not_exists.mp hd)]
    exact LooksAlike.ite (p := fun u => secondThreadCalls u = true)
      (f := fun u => .refused (secondThreadRefusal u)) Iff.rfl rfl (hostAdvance_looksAlike hv s)

/-! ## The engine -/

theorem hide_takeWord (hv : Lawful v) (w : Word) (s : State) :
    v.hide (takeWord (v.word w) (v.hide s)) = v.hide (takeWord w s) := by
  simp [takeWord, refill, dropTxq, Veil.hide, outWindow, hv.window_word, hv.word_word,
    flag_hidden hv, ← List.map_tail]

theorem hide_shiftOut (hv : Lawful v) (c : Cursor) {s : State} (hn : s.osrCnt ≠ 0) :
    v.hide (shiftOut c (v.hide s)) = v.hide (shiftOut c s) := by
  obtain ⟨n, hn⟩ := Nat.exists_eq_succ_of_ne_zero hn
  simp only [shiftOut, Veil.hide, hn, Nat.succ_eq_add_one, Nat.add_sub_cancel, hv.window_shift,
    hv.window_top, map_word_hidden hv, flag_hidden hv]

/-- Every action of the engine has its like on what shows of the state. -/
theorem acts_hidden (hv : Lawful v) {s t : State} (ha : EngineActs s t) :
    ∃ u, EngineActs (v.hide s) u ∧ v.hide u = v.hide t := by
  cases ha with
  | unstarted hq => exact ⟨_, .unstarted hq, hide_hide hv s⟩
  | delay hq hc => exact ⟨_, .delay hq hc, hide_hide hv { s with ctr := s.ctr - 1 }⟩
  | rdEntry hc hq => exact ⟨_, .rdEntry hc hq, hide_hide hv (setDir _ _ s)⟩
  | lineHigh hc hq hl => exact ⟨_, .lineHigh hc hq hl, hide_hide hv (goTo _ s)⟩
  | lineStillLow hc hq hl => exact ⟨_, .lineStillLow hc hq hl, hide_hide hv s⟩
  | lineStillHigh hc hq hl => exact ⟨_, .lineStillHigh hc hq hl, hide_hide hv s⟩
  | fallingEdge hc hq hl => exact ⟨_, .fallingEdge hc hq hl, hide_hide hv (delayThen _ _ s)⟩
  | sample hc hq h7 => exact ⟨_, .sample hc hq h7, hide_hide hv (goTo _ (shiftIn _ s))⟩
  | sampleLast hc hq h7 hr =>
    exact ⟨_, .sampleLast hc hq h7 hr, hide_hide hv (deliver (shiftIn _ s))⟩
  | overrun hc hq h7 hr =>
    refine ⟨_, .overrun hc hq h7 hr, ?_⟩
    simp only [shiftIn, Veil.hide, hv.window_window _ le_rfl, map_word_hidden hv, flag_hidden hv]
    rfl
  | heldByteWaits hc hq hr => exact ⟨_, .heldByteWaits hc hq hr, hide_hide hv s⟩
  | heldByteDelivered hc hq hr => exact ⟨_, .heldByteDelivered hc hq hr, hide_hide hv (deliver s)⟩
  | wrEntry hc hq => exact ⟨_, .wrEntry hc hq, hide_hide hv (setDir _ _ s)⟩
  | wrHigh hc hq => exact ⟨_, .wrHigh hc hq, hide_hide hv (goTo _ (drivePin _ s))⟩
  | @takesWord hc hp w rest hw =>
    exact ⟨_, .takesWord (s := v.hide s) hc hp (w := v.word w) (rest := rest.map v.word)
      (by simp [hw]), hide_takeWord hv w s⟩
  | pullStalls hc hp hw => exact ⟨_, .pullStalls hc hp (by simp [hw]), hide_hide hv s⟩
  | windowGoesOn hc hq hn => exact ⟨_, .windowGoesOn hc hq hn, hide_hide hv (goTo _ s)⟩
  | shift hc hq hn => exact ⟨_, .shift hc hq hn, hide_shiftOut hv _ hn⟩
  | shift2 hc hq hn => exact ⟨_, .shift2 hc hq hn, hide_shiftOut hv _ hn⟩
  | dataBit hc hq hn => exact ⟨_, .dataBit hc hq hn, hide_hide hv (goTo _ s)⟩
  | ninthBit hc hq hn => exact ⟨_, .ninthBit hc hq hn, hide_hide hv (goTo _ s)⟩
  | lastByte hc hq hx => exact ⟨_, .lastByte hc hq hx, hide_hide hv (goTo _ s)⟩
  | moreBytes hc hq hx => exact ⟨_, .moreBytes hc hq hx, hide_hide hv (goTo _ s)⟩
  | jmpFast hc hq => exact ⟨_, .jmpFast hc hq, hide_hide hv (goTo _ s)⟩
  | padBit hc hq => exact ⟨_, .padBit hc hq, hide_hide hv (delayThen _ _ s)⟩
  | padFast hc hq => exact ⟨_, .padFast hc hq, hide_hide hv (delayThen _ _ s)⟩
  | dataCell hc hq => exact ⟨_, .dataCell hc hq, hide_hide hv (openDataCell _ s)⟩
  | value hc hq => exact ⟨_, .value hc hq, hide_hide hv (delayThen _ _ (drivePin _ s))⟩
  | nextCell hc hq => exact ⟨_, .nextCell hc hq, hide_hide hv (goTo _ s)⟩
  | padStop hc hq => exact ⟨_, .padStop hc hq, hide_hide hv (delayThen _ _ s)⟩
  | stopCell hc hq => exact ⟨_, .stopCell hc hq, hide_hide hv (openStopCell s)⟩
  | stopHigh hc hq => exact ⟨_, .stopHigh hc hq, hide_hide hv (delayThen _ _ (drivePin _ s))⟩
  | toRead hc hq => exact ⟨_, .toRead hc hq, hide_hide hv (goTo _ s)⟩

theorem engineMove_looksAlike (hv : Lawful v) (s : State) : LooksAlike v engineMove s := by
  obtain ⟨t, he, ha⟩ | ⟨he, hu⟩ := engineMove_total s
  · obtain ⟨u, hu, hl⟩ := acts_hidden hv ha
    rw [LooksAlike, he, hu.move, onNext_next, onNext_next, hl]
  · rw [LooksAlike, he, engineMove_of_underflows (s := v.hide s) hu]

/-! ## One step -/

theorem onNext_onNext (f g : State → State) (o : StepOutcome) :
    onNext f (onNext g o) = onNext (f ∘ g) o := by
  cases o <;> rfl

theorem hide_closeCycle (hv : Lawful v) (s t : State) :
    v.hide (closeCycle s t) = v.hide (closeCycle s (v.hide t)) := by
  simp [closeCycle, Veil.hide, hv.window_window, hv.word_word, hv.flag_or, flag_hidden hv]

/-- A step looks at nothing a lawful veil hides. -/
theorem step_looksAlike (hv : Lawful v) (s : State) : LooksAlike v step s := by
  unfold LooksAlike
  cases ht : turn s with
  | host =>
    have hcomm : v.hide ∘ closeHostTurn = closeHostTurn ∘ v.hide :=
      funext (closeHostTurn_sessionOp.hides v)
    rw [step_of_host ht, step_of_host ((hide_turn s).trans ht), onNext_onNext, onNext_onNext, hcomm,
      ← onNext_onNext, ← onNext_onNext, hostMove_looksAlike hv s]
  | engine =>
    have hclose : closeCycle (v.hide s) = closeCycle s := rfl
    have hcomm : v.hide ∘ closeCycle s = (v.hide ∘ closeCycle s) ∘ v.hide :=
      funext (hide_closeCycle hv s)
    rw [step_of_engine ht, step_of_engine ((hide_turn s).trans ht), hclose, onNext_onNext,
      onNext_onNext, hcomm, ← onNext_onNext (v.hide ∘ closeCycle s),
      ← onNext_onNext (v.hide ∘ closeCycle s), engineMove_looksAlike hv s]

/-- Two states that look alike step alike. -/
theorem step_eq_of_hide_eq (hv : Lawful v) {s t : State} (h : v.hide s = v.hide t) :
    onNext v.hide (step s) = onNext v.hide (step t) := by
  rw [← step_looksAlike hv s, ← step_looksAlike hv t, h]

end

/-! ## The sticky flags -/

/-- Not looking at the two sticky flags. -/
def flagVeil : Veil := { word := id, window := fun _ o => o, flag := fun _ => false }

theorem flagVeil_lawful : Lawful flagVeil where
  word_word := fun _ => rfl
  window_window := fun _ _ => rfl
  window_word := fun _ => rfl
  window_shift := fun _ _ => rfl
  window_top := fun _ _ => rfl
  flag_or := fun _ _ => rfl

theorem flagVeil_hide :
    flagVeil.hide = fun t => { t with rxOverrun := false, contention := false } := by
  funext t
  simp [flagVeil, Veil.hide]

/-- Settles O37: the flags are hidden by a lawful veil. -/
theorem stickyFlagsAreReadByNothing : Obligations.StickyFlagsAreReadByNothing := by
  intro s overrun clashed
  rw [← flagVeil_hide]
  exact step_eq_of_hide_eq flagVeil_lawful rfl

/-! ## The ignored bits -/

/-- The top `n` bits of a word, the others 0. -/
def topBits (n : Nat) (w : Word) : Word := (w >>> (32 - n)) <<< (32 - n)

theorem topBits_getLsbD (n : Nat) (w : Word) (i : Nat) :
    (topBits n w).getLsbD i = (decide (32 ≤ i + n) && w.getLsbD i) := by
  by_cases hi : i < 32
  · by_cases hn : 32 ≤ i + n
    · have h1 : ¬ i < 32 - n := by omega
      have h2 : 32 - n + (i - (32 - n)) = i := by omega
      simp [topBits, hi, hn, h1, h2]
    · have h1 : i < 32 - n := by omega
      simp [topBits, hn, h1]
  · have hge : 32 ≤ i := by omega
    simp [BitVec.getLsbD_of_ge _ i hge]

theorem topBits_toNat (n : Nat) (w : Word) :
    (topBits n w).toNat = w.toNat / 2 ^ (32 - n) * 2 ^ (32 - n) := by
  rw [topBits, BitVec.toNat_shiftLeft, BitVec.toNat_ushiftRight, Nat.shiftRight_eq_div_pow,
    Nat.shiftLeft_eq]
  exact Nat.mod_eq_of_lt ((Nat.div_mul_le_self _ _).trans_lt w.isLt)

theorem topBits_eq_iff {n : Nat} {w x : Word} :
    topBits n w = topBits n x ↔ w.toNat / 2 ^ (32 - n) = x.toNat / 2 ^ (32 - n) := by
  rw [← BitVec.toNat_inj, topBits_toNat, topBits_toNat]
  exact Nat.mul_left_inj (Nat.two_pow_pos _).ne'

theorem topBits_eq_iff_window {w x : Word} : topBits 9 w = topBits 9 x ↔ window w = window x := by
  have hlt : ∀ y : Word, y.toNat / 2 ^ 23 < 2 ^ 9 := fun y => by have := y.isLt; omega
  rw [topBits_eq_iff, ← BitVec.toNat_inj, window, window, BitVec.extractLsb'_toNat,
    BitVec.extractLsb'_toNat, Nat.shiftRight_eq_div_pow, Nat.shiftRight_eq_div_pow,
    Nat.mod_eq_of_lt (hlt w), Nat.mod_eq_of_lt (hlt x)]

/-- Looking at the window of a queued word and at the bits of `osr` still to be taken only. -/
def windowVeil : Veil := { word := topBits 9, window := topBits, flag := id }

theorem topBits_topBits {m n : Nat} (w : Word) (h : n ≤ m) :
    topBits n (topBits m w) = topBits n w := by
  apply BitVec.eq_of_getLsbD_eq
  intro i hi
  simp only [topBits_getLsbD]
  by_cases hn : 32 ≤ i + n
  · have hm : 32 ≤ i + m := by omega
    simp [hn, hm]
  · simp [hn]

theorem topBits_shiftLeft (n : Nat) (w : Word) :
    topBits n (topBits (n + 1) w <<< 1) = topBits n (w <<< 1) := by
  apply BitVec.eq_of_getLsbD_eq
  intro i hi
  simp only [topBits_getLsbD, BitVec.getLsbD_shiftLeft]
  by_cases hn : 32 ≤ i + n ∧ 1 ≤ i
  · have hm : 32 ≤ i - 1 + (n + 1) := by omega
    simp [hm]
  · have hz : ¬ 32 ≤ i + n ∨ i < 1 := by omega
    obtain hz | hz := hz <;> simp [hz]

theorem windowVeil_lawful : Lawful windowVeil where
  word_word := fun w => topBits_topBits w le_rfl
  window_window := fun w h => topBits_topBits w h
  window_word := fun w => topBits_topBits w le_rfl
  window_shift := topBits_shiftLeft
  window_top := fun n w => by
    have h : 32 ≤ 31 + (n + 1) := by omega
    simp only [windowVeil, topBits_getLsbD, h, decide_true, Bool.true_and]
  flag_or := fun _ _ => rfl

/-- The veil over the ignored bits is the relation of `sameButIgnoredBits`. -/
theorem sameButIgnoredBits_iff {s t : State} :
    sameButIgnoredBits s t ↔ windowVeil.hide s = windowVeil.hide t := by
  have hq : s.txq.map (topBits 9) = t.txq.map (topBits 9) ↔
      s.txq.map window = t.txq.map window := by
    simp only [← List.forall₂_eq_eq_eq, List.forall₂_map_left_iff, List.forall₂_map_right_iff,
      topBits_eq_iff_window]
  constructor
  · rintro ⟨he, hw, ho⟩
    have hcnt : s.osrCnt = t.osrCnt := (congrArg State.osrCnt he :)
    have hosr : topBits t.osrCnt s.osr = topBits t.osrCnt t.osr := by
      rw [topBits_eq_iff]
      rwa [untaken, untaken, hcnt] at ho
    rw [← he]
    simp only [Veil.hide, windowVeil, hq.mpr hw, hosr, hcnt]
  · intro h
    have hcnt : s.osrCnt = t.osrCnt := (congrArg State.osrCnt h :)
    have hw : s.txq.map (topBits 9) = t.txq.map (topBits 9) := (congrArg State.txq h :)
    have hosr : topBits s.osrCnt s.osr = topBits t.osrCnt t.osr := (congrArg State.osr h :)
    refine ⟨?_, hq.mp hw, ?_⟩
    · have he := congrArg (fun u : State => { u with osr := t.osr, txq := t.txq }) h
      exact he
    · rw [hcnt, topBits_eq_iff] at hosr
      rwa [untaken, untaken, hcnt]

/-- Settles O38: the ignored bits are hidden by a lawful veil, through which the line and the turn
show. -/
theorem ignoredBitsAreNeverExamined : Obligations.IgnoredBitsAreNeverExamined := by
  intro s t h
  have hh := sameButIgnoredBits_iff.mp h
  refine ⟨?_, ?_, ?_⟩
  · rw [← hide_line (v := windowVeil) s, hh, hide_line]
  · rw [← hide_turn (v := windowVeil) s, hh, hide_turn]
  · have hstep := step_eq_of_hide_eq windowVeil_lawful hh
    cases hs : step s <;> cases ht : step t <;> rw [hs, ht] at hstep <;>
      simp only [onNext_next, onNext_fault, onNext_refused, reduceCtorEq, Host.Outcome.next.injEq,
        Host.Outcome.refused.injEq] at hstep
    · exact sameButIgnoredBits_iff.mpr hstep
    · exact hstep

end Sys2Proof.Proofs.Noninterference
end

section
/-! The session's invariant (42_session.md R262, R284; 60_exceptions.md R331). A receive, a send
and an ErrorRecovery are each made in the phase, the ownership and with the snapshot of their
operation (`RecvOk`, `SendOk`, `RecoverOk`), and where each ends the next position agrees again.
-/

open Sys2Proof Sys2Proof.Machine

namespace Sys2Proof.Proofs.SessionInvariant

open Moves HostMoves Frames

/-! ## What the three procedures are made in -/

/-- A receive for `k` may be under way. -/
def RecvOk (k : RecvFor) (s : State) : Prop :=
  recvAgrees k s.phase s.owned = true ∧ (recvHoldsSnapshot k = false → s.snapshot = Snapshot.clear)

/-- A send for `k` may be under way. -/
def SendOk (k : SendFor) (s : State) : Prop :=
  sendAgrees k s.phase s.owned = true ∧ (sendHoldsSnapshot k = false → s.snapshot = Snapshot.clear)

/-- ErrorRecovery may be under way for `k`. -/
def RecoverOk (k : RecoverFor) (s : State) : Prop :=
  recoverAgrees k s.phase s.owned = true ∧ (k ≠ .handshake → s.snapshot = Snapshot.clear)

theorem sessionInv_of_recv {s : State} {k : RecvFor} (h : RecvOk k s) (n t0 : Nat) :
    SessionInv (hostAt (.readTick n k) s) ∧ SessionInv (hostAt (.testQueue n t0 k) s) ∧
      SessionInv (hostAt (.testClock n t0 k) s) := ⟨h, h, h⟩

/-- A payload under way is not empty (R226). -/
theorem sessionInv_of_send {s : State} {k : SendFor} {p : List Byte} (h : SendOk k s) (hp : p ≠ [])
    (n : Nat) :
    SessionInv (hostAt (.waitLine p k) s) ∧ SessionInv (hostAt (.restartWrite p k) s) ∧
      SessionInv (hostAt (.delay n (.reply p k)) s) := by
  have hg : (sendAgrees k s.phase s.owned && !p.isEmpty) = true := by simp [h.1, hp]
  exact ⟨⟨hg, h.2⟩, ⟨hg, h.2⟩, ⟨hg, h.2⟩⟩

theorem sessionInv_of_push {s : State} {k : SendFor} {p : List Byte} {i : Nat} (h : SendOk k s)
    (hi : i < p.length) : SessionInv (hostAt (.push p i k) s) := by
  have hg : (sendAgrees k s.phase s.owned && decide (i < p.length)) = true := by simp [h.1, hi]
  exact ⟨hg, h.2⟩

theorem sessionInv_of_recover {s : State} {k : RecoverFor} (h : RecoverOk k s) (n : Nat) :
    SessionInv (hostAt (.delay n (.recover k)) s) ∧ SessionInv (hostAt (.recoverRestart k) s) := by
  have hs : decide (k = .handshake) = false → s.snapshot = Snapshot.clear :=
    fun hk => h.2 (of_decide_eq_false hk)
  exact ⟨⟨h.1, hs⟩, ⟨h.1, hs⟩⟩

/-- An operation that has returned leaves no snapshot (R284). -/
theorem returnWith_sessionInv {s : State} {r : Result}
    (h : hostAgrees .outside s.phase s.owned = true) : SessionInv (returnWith r s) :=
  ⟨h, fun _ => rfl⟩

/-! ## Where they end -/

theorem afterDiscard_sessionInv {s : State} {n : Nat} (h : RecvOk (.discard n) s) :
    SessionInv (afterDiscard n s) := by
  unfold afterDiscard
  split
  · exact ⟨h.1, nofun⟩
  · exact ⟨h.1, nofun⟩

theorem receivedByte_sessionInv {s : State} {k : RecvFor} (b : Byte) (h : RecvOk k s) :
    SessionInv (receivedByte b k s) := by
  cases k with
  | discard n => exact afterDiscard_sessionInv h
  | direct =>
    obtain ⟨hg, -⟩ := h
    simp only [recvAgrees, Bool.and_eq_true, Bool.not_eq_true'] at hg
    exact returnWith_sessionInv (by simp [hostAgrees, hg])
  | handshake =>
    obtain ⟨hg, -⟩ := h
    simp only [recvAgrees, Bool.and_eq_true, Bool.not_eq_true', decide_eq_true_eq] at hg
    exact ⟨by simp [receivedByte, hostAgrees, hg], by simp [receivedByte, holdsSnapshot, hg]⟩
  | waitForPoll =>
    obtain ⟨hg, hs⟩ := h
    simp only [recvAgrees, Bool.and_eq_true, decide_eq_true_eq] at hg
    exact ⟨by simp [receivedByte, hostAgrees, hg], fun _ => hs rfl⟩

theorem receivedNothing_sessionInv {s : State} {k : RecvFor} (h : RecvOk k s) :
    SessionInv (receivedNothing k s) := by
  cases k with
  | discard n => exact afterDiscard_sessionInv h
  | direct =>
    obtain ⟨hg, -⟩ := h
    simp only [recvAgrees, Bool.and_eq_true, Bool.not_eq_true'] at hg
    exact returnWith_sessionInv (by simp [hostAgrees, hg])
  | handshake =>
    obtain ⟨hg, -⟩ := h
    simp only [recvAgrees, Bool.and_eq_true, Bool.not_eq_true'] at hg
    exact returnWith_sessionInv (by simp [hostAgrees, noSessionPhase, hg])
  | waitForPoll =>
    obtain ⟨hg, hs⟩ := h
    simp only [recvAgrees, Bool.and_eq_true] at hg
    have hr : RecoverOk .waitForPoll (setPhase .errorRecovery s) :=
      ⟨by simp [recoverAgrees, hg], fun _ => hs rfl⟩
    exact (sessionInv_of_recover hr _).1

/-- The poll loop listens in Idle on an owned transport (R272). -/
theorem listenAgain_sessionInv {s : State} (ho : s.owned = true)
    (hs : s.snapshot = Snapshot.clear) : SessionInv (listenAgain s) := by
  have hr : RecvOk .waitForPoll (setPhase .idle s) := ⟨by simp [recvAgrees, ho], fun _ => hs⟩
  exact (sessionInv_of_recv hr s.timeout 0).1

theorem sendReturns_sessionInv {s : State} {k : SendFor} (h : SendOk k s) :
    SessionInv (sendReturns k s) := by
  obtain ⟨hg, hs⟩ := h
  cases k with
  | direct =>
    simp only [sendAgrees, Bool.and_eq_true, Bool.not_eq_true'] at hg
    exact returnWith_sessionInv (by simp [hostAgrees, hg])
  | handshake => exact returnWith_sessionInv rfl
  | waitForPoll =>
    simp only [sendAgrees, Bool.and_eq_true] at hg
    exact listenAgain_sessionInv hg.1 (hs rfl)
  | respond =>
    simp only [sendAgrees, Bool.and_eq_true] at hg
    exact returnWith_sessionInv (by simp [hostAgrees, hg])

theorem leaveErrorRecovery_sessionInv {s : State} {k : RecoverFor} (h : RecoverOk k s) :
    SessionInv (leaveErrorRecovery k s) := by
  obtain ⟨hg, hs⟩ := h
  cases k with
  | handshake => exact returnWith_sessionInv rfl
  | waitForPoll =>
    simp only [recoverAgrees, Bool.and_eq_true] at hg
    exact listenAgain_sessionInv (s := restartForRead s) hg.1 (hs nofun)

/-! ## The steps of a position -/

theorem stepTestQueue_sessionInv {s : State} {k : RecvFor} (n t0 : Nat) (h : RecvOk k s) :
    SessionInv (stepTestQueue n t0 k s) := by
  unfold stepTestQueue
  split
  · exact receivedByte_sessionInv (s := dropRxq s) _ h
  · exact (sessionInv_of_recv h n t0).2.2

theorem stepTestClock_sessionInv {s : State} {k : RecvFor} (n t0 : Nat) (h : RecvOk k s) :
    SessionInv (stepTestClock n t0 k s) := by
  unfold stepTestClock
  split
  · exact receivedNothing_sessionInv h
  · exact (sessionInv_of_recv h n t0).2.1

theorem stepPush_sessionInv {s : State} {k : SendFor} {p : List Byte} {i : Nat}
    (hi : SessionInv s) (h : SendOk k s) (hp : i < p.length) : SessionInv (stepPush p i k s) := by
  unfold stepPush
  split
  · exact sendReturns_sessionInv h
  · split_ifs with hf hl
    · exact hi
    · exact sendReturns_sessionInv (s := pushTxq _ s) h
    · exact sessionInv_of_push (s := pushTxq _ s) h (by omega)

/-- A delay's end, where what it was for may follow (R281, R280, R282). -/
theorem delayReturns_sessionInv {s : State} {n : Nat} {k : AfterDelay} (hh : s.host = .delay n k)
    (hi : SessionInv s) : SessionInv (delayReturns k s) := by
  obtain ⟨hg, hs⟩ := hi
  rw [hh] at hg hs
  cases k with
  | reply p k =>
    simp only [hostAgrees, Bool.and_eq_true, Bool.not_eq_true'] at hg
    have hk : SendOk k s := ⟨hg.1, hs⟩
    exact (sessionInv_of_send hk (by rintro rfl; simp at hg) 0).1
  | recover k =>
    have hk : RecoverOk k s := ⟨hg, fun hne => hs (decide_eq_false hne)⟩
    exact (sessionInv_of_recover hk 0).2
  | discards => exact ⟨hg, nofun⟩
  | report =>
    have hk : SendOk .respond s := ⟨hg, nofun⟩
    exact (sessionInv_of_send hk (by simp [report]) 0).1

theorem invoke_sessionInv {op : HostOp} {s t : State} (hi : SessionInv s) (ho : s.host = .outside)
    (h : invoke op s = .next t) : SessionInv t := by
  obtain ⟨hg, hs⟩ := hi
  rw [ho] at hg hs
  obtain ⟨rfl, -, rfl⟩ | ⟨hf, rfl, rfl⟩ | ⟨hf, rfl, rfl⟩ | ⟨hf, n, rfl, rfl⟩ |
    ⟨hf, p, hp, rfl, rfl⟩ | ⟨hf, n, p, rfl, rfl⟩ | ⟨hp, rfl, rfl⟩ | ⟨hp, p, rfl, rfl⟩ :=
    invoke_next_cases h
  · exact returnWith_sessionInv rfl
  · exact returnWith_sessionInv hg
  · exact returnWith_sessionInv hg
  · have hr : RecvOk .direct s := ⟨by simpa [hostAgrees, recvAgrees, hf] using hg, fun _ => hs rfl⟩
    exact (sessionInv_of_recv hr n 0).1
  · have hr : SendOk .direct s := ⟨by simpa [hostAgrees, sendAgrees, hf] using hg, fun _ => hs rfl⟩
    exact (sessionInv_of_send hr hp 0).1
  · have hr : RecvOk .handshake { s with phase := .handshaking, timeout := n, snapshot := p } :=
      ⟨by simp [recvAgrees, hf], nofun⟩
    exact (sessionInv_of_recv hr n 0).1
  · have hown : s.owned = true := by
      by_contra hn
      simp [hostAgrees, hn, hp, noSessionPhase] at hg
    have hr : RecvOk .waitForPoll s := ⟨by simp [recvAgrees, hown, hp], fun _ => hs rfl⟩
    exact (sessionInv_of_recv hr s.timeout 0).1
  · have hown : s.owned = true := by
      by_contra hn
      simp [hostAgrees, hn, hp, noSessionPhase] at hg
    exact ⟨by simp [hostAgrees, hown], nofun⟩

/-! ## The dispatch -/

theorem handshakeResponse_sessionInv {s : State} (c : Command) (ho : s.owned = false) :
    SessionInv (handshakeResponse c s) := by
  cases c with
  | probe | reset | origin | recalibrate =>
    exact ⟨by simp [handshakeResponse, beginReply, delayUs, hostAgrees, sendAgrees, ho, idReply,
      calReplyHs], nofun⟩
  | poll =>
    exact ⟨by simp [handshakeResponse, beginSend, hostAgrees, sendAgrees, ho, report], nofun⟩
  | unknown =>
    exact ⟨by simp [handshakeResponse, enterErrorRecovery, delayUs, hostAgrees, recoverAgrees, ho],
      nofun⟩

theorem loopResponse_sessionInv {s : State} (c : Command) (ho : s.owned = true)
    (hs : s.snapshot = Snapshot.clear) : SessionInv (loopResponse c s) := by
  cases c with
  | probe | reset | origin | recalibrate =>
    exact ⟨by simp [loopResponse, beginReply, delayUs, hostAgrees, sendAgrees, ho, idReply,
      calReplySs], fun _ => hs⟩
  | poll => exact returnWith_sessionInv (by simp [hostAgrees, ho])
  | unknown =>
    exact ⟨by simp [loopResponse, enterErrorRecovery, delayUs, hostAgrees, recoverAgrees, ho],
      fun _ => hs⟩

theorem dispatch_sessionInv {s t : State} {b : Byte} (hb : s.host = .dispatch b)
    (hi : SessionInv s) (h : hostMove s = .next t) : SessionInv t := by
  obtain ⟨hg, hs⟩ := hi
  rw [hb] at hg hs
  obtain ⟨hp, he⟩ | ⟨hp, he⟩ | ⟨-, -, he⟩ := hostMove_dispatch_cases hb <;> cases he.symm.trans h
  · have ho : s.owned = false := by
      by_contra hn
      simp [hostAgrees, hn, hp] at hg
    exact handshakeResponse_sessionInv _ ho
  · have ho : s.owned = true := by
      by_contra hn
      simp [hostAgrees, hn, hp] at hg
    exact loopResponse_sessionInv _ ho (hs (by simp [holdsSnapshot, ho]))

/-! ## One step -/

theorem hostAdvance_sessionInv {s t : State} (ho : s.host ≠ .outside) (hi : SessionInv s)
    (h : hostAdvance s = .next t) : SessionInv t := by
  have hi' := hi
  obtain ⟨hg, hs⟩ := hi'
  cases hh : s.host <;> rw [hh] at hg hs <;> simp only [hostAdvance, hh] at h
  case outside => exact absurd hh ho
  case readTick n k =>
    cases h
    exact (sessionInv_of_recv (k := k) ⟨hg, hs⟩ n _).2.1
  case testQueue n t0 k => cases h; exact stepTestQueue_sessionInv n t0 ⟨hg, hs⟩
  case testClock n t0 k => cases h; exact stepTestClock_sessionInv n t0 ⟨hg, hs⟩
  case dispatch => cases h; exact hi
  case delay n k =>
    cases h
    split
    · exact hi
    · exact delayReturns_sessionInv hh hi
  case waitLine p k =>
    cases h
    unfold stepWaitLine
    split
    · exact ⟨hg, hs⟩
    · exact hi
  case restartWrite p k =>
    cases h
    simp only [hostAgrees, Bool.and_eq_true, Bool.not_eq_true'] at hg
    have hk : SendOk k (restartForWrite s) := ⟨hg.1, hs⟩
    exact sessionInv_of_push hk (List.length_pos_iff.mpr (by rintro rfl; simp at hg))
  case push p i k =>
    cases h
    simp only [hostAgrees, Bool.and_eq_true, decide_eq_true_eq] at hg
    exact stepPush_sessionInv hi ⟨hg.1, hs⟩ hg.2
  case recoverRestart k =>
    cases h
    exact leaveErrorRecovery_sessionInv ⟨hg, fun hne => hs (decide_eq_false hne)⟩

theorem hostMove_sessionInv {s t : State} (hi : SessionInv s) (h : hostMove s = .next t) :
    SessionInv t := by
  by_cases hd : ∃ b, s.host = .dispatch b
  · obtain ⟨b, hb⟩ := hd
    exact dispatch_sessionInv hb hi h
  · by_cases ho : s.host = .outside
    · obtain ⟨-, rfl⟩ | ⟨op, rest, -, -, hop⟩ := hostMove_outside_cases ho h
      · exact hi
      · exact invoke_sessionInv (s := { s with calls := rest }) hi ho hop
    · rw [hostMove_of_not_dispatch (not_exists.mp hd)] at h
      exact hostAdvance_sessionInv ho hi (hostAct_eq_next.mp h).2

/-- Settles O33: the engine leaves the session alone, and each host move keeps the agreement. -/
theorem everyStepKeepsTheSessionInvariant : Obligations.EveryStepKeepsTheSessionInvariant := by
  intro s t hi h
  cases ht : turn s with
  | host =>
    obtain ⟨u, hu, rfl⟩ := step_host_cases ht h
    have hinv := hostMove_sessionInv hi hu
    exact hinv
  | engine =>
    obtain ⟨hp, -, ho, hh, hs, -⟩ := engineCycleLeavesTheSessionAlone s t h ht
    rwa [SessionInv, hp, ho, hh, hs]

/-- Settles O35: under the invariant a dispatch stands in a phase that decodes it, and nothing but a
call is refused elsewhere. -/
theorem onlyCallsAreRefused : Obligations.OnlyCallsAreRefused := by
  intro s r hi h
  cases ht : turn s with
  | engine =>
    rw [step_of_engine ht, onNext_eq_refused] at h
    exact absurd h engineMove_ne_refused
  | host =>
    rw [step_of_host ht, onNext_eq_refused] at h
    by_cases hd : ∃ b, s.host = .dispatch b
    · obtain ⟨b, hb⟩ := hd
      obtain ⟨-, he⟩ | ⟨-, he⟩ | ⟨h1, h2, -⟩ := hostMove_dispatch_cases hb
      · cases he.symm.trans h
      · cases he.symm.trans h
      · have hg := hi.1
        rw [hb] at hg
        cases ho : s.owned <;> simp [hostAgrees, ho, h1, h2] at hg
    · rw [hostMove_of_not_dispatch (not_exists.mp hd)] at h
      exact ⟨rfl, hostAct_eq_refused h⟩

end Sys2Proof.Proofs.SessionInvariant
end

section
/-! The host's operations, step by step (41_frame_transport.md R221 to R229, 42_session.md R264 to
R283, 60_exceptions.md R325, R331). A host turn is the caller's next call (`step_of_call`), the
response to a command byte, or the step of the host's position (`step_of_position`). -/

open Sys2Proof Sys2Proof.Machine

namespace Sys2Proof.Proofs.HostOperations

open Moves HostMoves

/-! ## A host turn -/

/-- Outside every operation a host turn takes the caller's next call. -/
theorem step_of_call {s : State} {op : HostOp} {rest : List Call} (ht : turn s = .host)
    (ho : s.host = .outside) (hc : s.calls = ⟨.host, op⟩ :: rest) :
    step s = onNext closeHostTurn (takeCall op { s with calls := rest }) := by
  rw [step_of_host ht, hostMove_of_call ho hc]

/-- On an initialised core the call is the invocation. -/
theorem step_of_started_call {s : State} {op : HostOp} {rest : List Call} (ht : turn s = .host)
    (ho : s.host = .outside) (hu : s.cursor ≠ .unstarted) (hc : s.calls = ⟨.host, op⟩ :: rest) :
    step s = onNext closeHostTurn (invoke op { s with calls := rest }) := by
  rw [step_of_call ht ho hc, takeCall_of_started (s := { s with calls := rest }) (.inl hu)]

/-- Inside an operation a host turn is the step of the host's position. -/
theorem step_of_position {s : State} (ht : turn s = .host) (h2 : secondThreadCalls s = false)
    (hd : ∀ b, s.host ≠ .dispatch b) : step s = onNext closeHostTurn (hostAdvance s) := by
  rw [step_of_host ht, hostMove_of_position hd h2]

/-! ## The steps of a receive, a send and a delay -/

section
variable {s : State}

theorem step_of_readTick {n : Nat} {k : RecvFor} (ht : turn s = .host)
    (h2 : secondThreadCalls s = false) (hh : s.host = .readTick n k) :
    step s = .next (closeHostTurn (hostAt (.testQueue n s.tick k) s)) := by
  rw [step_of_position ht h2 (by simp [hh]), hostAdvance, hh]
  rfl

theorem step_of_testQueue {n t0 : Nat} {k : RecvFor} (ht : turn s = .host)
    (h2 : secondThreadCalls s = false) (hh : s.host = .testQueue n t0 k) :
    (s.rxq = [] → step s = .next (closeHostTurn (hostAt (.testClock n t0 k) s))) ∧
    (∀ b rest, s.rxq = b :: rest →
      step s = .next (closeHostTurn (receivedByte b k { s with rxq := rest }))) := by
  rw [step_of_position ht h2 (by simp [hh])]
  refine ⟨fun hx => ?_, fun b rest hx => ?_⟩ <;>
    simp [hostAdvance, hh, stepTestQueue, hx, dropRxq]

theorem step_of_testClock {n t0 : Nat} {k : RecvFor} (ht : turn s = .host)
    (h2 : secondThreadCalls s = false) (hh : s.host = .testClock n t0 k) :
    (s.tick - t0 < n → step s = .next (closeHostTurn (hostAt (.testQueue n t0 k) s))) ∧
    (n ≤ s.tick - t0 → step s = .next (closeHostTurn (receivedNothing k s))) := by
  rw [step_of_position ht h2 (by simp [hh])]
  refine ⟨fun hlt => ?_, fun hle => ?_⟩
  · have he : ¬ expired n t0 s = true := by simpa [expired_iff] using hlt
    simp [hostAdvance, hh, stepTestClock, he]
  · simp [hostAdvance, hh, stepTestClock, expired_iff.mpr hle]

theorem step_of_delay {n : Nat} {k : AfterDelay} (ht : turn s = .host)
    (h2 : secondThreadCalls s = false) (hh : s.host = .delay n k) :
    (s.now < n → step s = .next (closeHostTurn s)) ∧
    (n ≤ s.now → step s = .next (closeHostTurn (delayReturns k s))) := by
  rw [step_of_position ht h2 (by simp [hh])]
  refine ⟨fun hlt => ?_, fun hle => ?_⟩
  · simp [hostAdvance, hh, hlt]
  · simp [hostAdvance, hh, Nat.not_lt.mpr hle]

theorem step_of_waitLine {p : List Byte} {k : SendFor} (ht : turn s = .host)
    (h2 : secondThreadCalls s = false) (hh : s.host = .waitLine p k) :
    (line s = false → step s = .next (closeHostTurn s)) ∧
    (line s = true → step s = .next (closeHostTurn (hostAt (.restartWrite p k) s))) := by
  rw [step_of_position ht h2 (by simp [hh])]
  refine ⟨fun hl => ?_, fun hl => ?_⟩ <;> simp [hostAdvance, hh, stepWaitLine, hl]

theorem step_of_restartWrite {p : List Byte} {k : SendFor} (ht : turn s = .host)
    (h2 : secondThreadCalls s = false) (hh : s.host = .restartWrite p k) :
    step s = .next (closeHostTurn (hostAt (.push p 0 k) (restartForWrite s))) := by
  rw [step_of_position ht h2 (by simp [hh])]
  simp [hostAdvance, hh]

theorem step_of_push {p : List Byte} {i : Nat} {k : SendFor} {b : Byte} (ht : turn s = .host)
    (h2 : secondThreadCalls s = false) (hh : s.host = .push p i k) (hb : p[i]? = some b) :
    (s.cfg.qdepth ≤ s.txq.length → step s = .next (closeHostTurn s)) ∧
    (s.txq.length < s.cfg.qdepth → i + 1 ≠ p.length →
      step s = .next (closeHostTurn (hostAt (.push p (i + 1) k) (pushTxq (txWord b false) s)))) ∧
    (s.txq.length < s.cfg.qdepth → i + 1 = p.length →
      step s = .next (closeHostTurn (sendReturns k (pushTxq (txWord b true) s)))) := by
  rw [step_of_position ht h2 (by simp [hh])]
  refine ⟨fun hf => ?_, fun hr hl => ?_, fun hr hl => ?_⟩
  · simp [hostAdvance, hh, stepPush, hb, txFull_iff.mpr hf]
  · simp [hostAdvance, hh, stepPush, hb, txFull, Nat.not_le.mpr hr, hl]
  · simp [hostAdvance, hh, stepPush, hb, txFull, Nat.not_le.mpr hr, hl]

theorem step_of_recoverRestart {k : RecoverFor} (ht : turn s = .host)
    (h2 : secondThreadCalls s = false) (hh : s.host = .recoverRestart k) :
    step s = .next (closeHostTurn (leaveErrorRecovery k s)) := by
  rw [step_of_position ht h2 (by simp [hh])]
  simp [hostAdvance, hh]

end

/-! ## The commands -/

/-- Settles O8: the two pairs of rows have the same meaning each. -/
theorem cannedRepliesBeginInHandshaking : Obligations.CannedRepliesBeginInHandshaking := by
  intro s
  refine ⟨?_, ?_⟩ <;> rintro i (rfl | rfl) <;> rfl

/-- Settles O9: the report is the payload of a send begun at once. -/
theorem pollInHandshakingSendsTheReportAtOnce :
    Obligations.PollInHandshakingSendsTheReportAtOnce := fun _ => rfl

/-- Settles O10: neither row reads its byte. -/
theorem unknownByteEntersErrorRecovery : Obligations.UnknownByteEntersErrorRecovery :=
  fun _ _ => ⟨rfl, rfl⟩

/-- Settles O11: the two pairs of rows have the same meaning each. -/
theorem cannedRepliesBeginInIdle : Obligations.CannedRepliesBeginInIdle := by
  intro s
  refine ⟨?_, ?_⟩ <;> rintro i (rfl | rfl) <;> rfl

/-- Settles O12: the meaning is the return alone. -/
theorem pollInIdleReturnsToTheCaller : Obligations.PollInIdleReturnsToTheCaller := fun _ => rfl

/-- Settles O13: in both phases the dispatch begins a response. -/
theorem everyDispatchedByteHasANextState : Obligations.EveryDispatchedByteHasANextState := by
  intro s b ht hb hp
  rw [step_of_host ht]
  obtain ⟨-, he⟩ | ⟨-, he⟩ | ⟨h1, h2, -⟩ := hostMove_dispatch_cases hb
  · exact ⟨_, by rw [he, onNext_next]⟩
  · exact ⟨_, by rw [he, onNext_next]⟩
  · exact absurd hp (by simp [h1, h2])

/-- Settles O16: the phase selects the place, and the place the row. -/
theorem stepRunsTheDispatchedCommand : Obligations.StepRunsTheDispatchedCommand := by
  intro s b ht hb
  obtain ⟨hh, hi, -⟩ := hostMove_of_dispatch hb
  exact ⟨fun hp => by rw [step_of_host ht, hh hp], fun hp => by rw [step_of_host ht, hi hp]⟩

/-! ## The calls -/

theorem configOk_iff {c : Config} : configOk c = true ↔ 9 ≤ c.k ∧ 1 ≤ c.qdepth := by
  simp [configOk]

/-- Settles O45: `init` is taken before and after `init`, and its test is the configuration's. -/
theorem initPlacesTheEngineAtTheReadEntry : Obligations.InitPlacesTheEngineAtTheReadEntry := by
  intro s rest ht ho hc
  rw [step_of_call ht ho hc, takeCall_of_started (.inr rfl), invoke]
  refine ⟨fun hk hq => ?_, fun hbad => ?_⟩
  · rw [if_pos (configOk_iff.mpr ⟨hk, hq⟩)]
    rfl
  · rw [if_neg (by rw [configOk_iff]; dsimp only; omega)]
    rfl

/-- Settles O46: the two restarts differ in the entry they place the cursor at. -/
theorem restartsFlushAndPlaceTheCursor : Obligations.RestartsFlushAndPlaceTheCursor := by
  intro s
  refine ⟨rfl, rfl, rfl, fun rest ht ho hown hu => ⟨fun hc => ?_, fun hc => ?_⟩⟩ <;>
    rw [step_of_started_call ht ho hu hc, invoke, onFreeTransport, if_neg (by simp [hown])] <;>
    simp [← ho, closeHostTurn, returnWith, restartForRead, restartForWrite, restartAt]

/-- Settles O47: before `init` no other call is taken. -/
theorem operationsBeforeInitAreRefused : Obligations.OperationsBeforeInitAreRefused := by
  intro s op rest ht ho hu hc hne
  rw [step_of_call ht ho hc, takeCall_of_unstarted (s := { s with calls := rest }) hu hne,
    onNext_refused]

/-- The operations a session's owner may not use directly (R331). -/
theorem invoke_of_owned {s : State} {op : HostOp} (hown : s.owned = true) (hi : op ≠ .init)
    (hw : op ≠ .waitForPoll) (hr : ∀ p, op ≠ .respondToPoll p) :
    invoke op s = .refused .notOwner := by
  cases op with
  | init => exact absurd rfl hi
  | waitForPoll => exact absurd rfl hw
  | respondToPoll p => exact absurd rfl (hr p)
  | restartForRead | restartForWrite | receiveByte n | handshake n p =>
    simp [invoke, onFreeTransport, hown]
  | sendBytes p => simp [invoke, hown]

/-- Settles O48: an owned transport refuses its operations, a second thread is refused everywhere.
-/
theorem ownedTransportAndSecondThreadAreRefused :
    Obligations.OwnedTransportAndSecondThreadAreRefused := by
  intro s op rest ht
  refine ⟨fun hu ho hown hc hi hw hr => ?_, fun hor hd hc => ?_⟩
  · rw [step_of_started_call ht ho hu hc,
      invoke_of_owned (s := { s with calls := rest }) hown hi hw hr, onNext_refused]
  · have hno : secondThreadRefusal s = .notOwner :=
      secondThreadRefusal_eq_notOwner.mpr (hor.imp_right fun hop => by simp [hc, hop])
    rw [step_host_own ht hd, hostAct_of_second (by simp [secondThreadCalls, hc]), hno,
      onNext_refused]

/-- Settles O49: each of the three tests stands in the operation's own invocation. -/
theorem wrongPhaseAndEmptyPayloadAreRefused : Obligations.WrongPhaseAndEmptyPayloadAreRefused := by
  intro s rest p ht ho hu
  refine ⟨fun hc hp => ?_, fun hc hp => ?_, fun hc hown => ?_⟩ <;>
    rw [step_of_started_call ht ho hu hc]
  · simp [invoke, hp]
  · simp [invoke, hp]
  · simp [invoke, hown]

/-- Settles O50: with its test passed each invocation is the operation's first assignment. -/
theorem operationsBeginAsTheirRulesSay : Obligations.OperationsBeginAsTheirRulesSay := by
  intro s rest p timeout payload ht ho hu
  refine ⟨fun hown hc => ?_, fun hp hc => ?_, fun hp hc => ?_, fun hown hc => ?_,
    fun hown hne hc => ?_⟩ <;> rw [step_of_started_call ht ho hu hc]
  · rw [invoke, onFreeTransport, if_neg (by simp [hown])]
    rfl
  · rw [invoke, if_pos hp]
    rfl
  · rw [invoke, if_pos hp]
    rfl
  · rw [invoke, onFreeTransport, if_neg (by simp [hown])]
    rfl
  · rw [invoke, if_neg (by simp [hown]), if_neg (by simp [hne])]
    rfl

/-! ## Receiving -/

/-- Settles O51: the three positions of a receive, and the two returns of the caller's own. -/
theorem receiveTestsTheQueueBeforeTheClock : Obligations.ReceiveTestsTheQueueBeforeTheClock := by
  intro s timeout t0 ht h2
  exact ⟨fun k => ⟨fun hh => step_of_readTick ht h2 hh, fun hh => (step_of_testQueue ht h2 hh).1,
      fun hh => (step_of_testClock ht h2 hh).1⟩,
    fun b rest hh hx => (step_of_testQueue ht h2 hh).2 b rest hx,
    fun hh hle => (step_of_testClock ht h2 hh).2 hle⟩

/-- Settles O53: what `receivedNothing` is for each receive of the session. -/
theorem noDataIsFailureRecoveryOrIgnored : Obligations.NoDataIsFailureRecoveryOrIgnored := by
  intro s timeout t0 ht h2 hle
  exact ⟨fun hh => (step_of_testClock ht h2 hh).2 hle, fun hh => (step_of_testClock ht h2 hh).2 hle,
    fun hh => (step_of_testClock ht h2 hh).2 hle, fun hh => (step_of_testClock ht h2 hh).2 hle⟩

/-- Settles O54: what `receivedByte` is for each receive of the session. -/
theorem receivedByteIsDispatchedOrDropped : Obligations.ReceivedByteIsDispatchedOrDropped := by
  intro s timeout t0 b rest ht h2 hx
  refine ⟨?_, fun hh => (step_of_testQueue ht h2 hh).2 b rest hx,
    fun hh => (step_of_testQueue ht h2 hh).2 b rest hx⟩
  rintro (hh | hh) <;> exact (step_of_testQueue ht h2 hh).2 b rest hx

/-! ## Delays and sends -/

/-- Settles O55: before the deadline the turn is idle, from it on the delay returns. -/
theorem replyDelayEndsInTheSend : Obligations.ReplyDelayEndsInTheSend := by
  intro s deadline payload k ht h2
  exact ⟨fun d hh => (step_of_delay ht h2 hh).1, fun hh => (step_of_delay ht h2 hh).2,
    fun hh => (step_of_delay ht h2 hh).2, fun hh => (step_of_delay ht h2 hh).2⟩

/-- Settles O58: each return is one assignment of the session. -/
theorem finishedSendReturnsToItsOperation : Obligations.FinishedSendReturnsToItsOperation :=
  fun _ => ⟨rfl, rfl, rfl, rfl⟩

end Sys2Proof.Proofs.HostOperations
end

section
/-! Runs of one agent (00_scope.md R22). `Turns a n s u` says what `n` turns of agent `a` make of
a state, but for what every turn adds to its action (`elapse`); runs compose by `Turns.trans`. -/

open Sys2Proof Sys2Proof.Machine

namespace Sys2Proof.Proofs.Runs

open Moves HostMoves HostOperations LineDirection

/-! ## Turns of one agent -/

/-- What `n` turns of an agent add to their actions: the schedule moves on, and with the engine's
turns time, the tick counter and the console's script. -/
def elapse (a : Agent) (n : Nat) (s : State) : State :=
  match a with
  | .host => { s with sched := s.sched.drop n }
  | .engine =>
    { s with
      now := s.now + n
      tick := s.tick + n * s.cfg.ticksPerCycle
      console := s.console.drop n
      sched := s.sched.drop n }

theorem elapse_zero (a : Agent) (s : State) : elapse a 0 s = s := by
  cases a <;> simp [elapse]

theorem elapse_elapse (a : Agent) (m n : Nat) (s : State) :
    elapse a n (elapse a m s) = elapse a (m + n) s := by
  cases a <;> simp [elapse, Nat.add_assoc, Nat.add_mul]

@[simp] theorem elapse_sched (a : Agent) (n : Nat) (s : State) :
    (elapse a n s).sched = s.sched.drop n := by
  cases a <;> rfl

/-- The next `n` turns are agent `a`'s. -/
abbrev turnsOf (a : Agent) (n : Nat) (s : State) : Prop := s.sched.take n = List.replicate n a

theorem turn_of_turnsOf {a : Agent} {n : Nat} {s : State} (h : turnsOf a (n + 1) s) :
    turn s = a := by
  cases hs : s.sched with
  | nil => simp [turnsOf, hs] at h
  | cons b rest =>
    rw [turnsOf, hs, List.take_succ_cons, List.replicate_succ, List.cons.injEq] at h
    exact (turn_of_sched hs).trans h.1

theorem turnsOf_left {a : Agent} {m n : Nat} {s : State} (h : turnsOf a (m + n) s) :
    turnsOf a m s := by
  have h' := congrArg (List.take m) h
  simpa [List.take_take, List.take_replicate] using h'

theorem turnsOf_right {a : Agent} {m n : Nat} {s u : State} (hs : u.sched = s.sched)
    (h : turnsOf a (m + n) s) : turnsOf a n (elapse a m u) := by
  rw [turnsOf, elapse_sched, hs, List.take_drop, h, List.drop_replicate, Nat.add_sub_cancel_left]

theorem runSteps_add {m n : Nat} {s t : State} (h : runSteps m s = .next t) :
    runSteps (m + n) s = runSteps n t := by
  induction m generalizing s with
  | zero =>
    cases h
    rw [Nat.zero_add]
  | succ m ih =>
    rw [Nat.succ_add]
    simp only [runSteps] at h ⊢
    cases hs : step s <;> rw [hs] at h
    · exact ih h
    · cases h
    · cases h

theorem runSteps_one {s t : State} (h : step s = .next t) : runSteps 1 s = .next t := by
  simp [runSteps, h]

/-- `n` turns of agent `a` lead from `s` to `u`, but for what turns add. -/
def Turns (a : Agent) (n : Nat) (s u : State) : Prop :=
  u.sched = s.sched ∧ (turnsOf a n s → runSteps n s = .next (elapse a n u))

theorem Turns.refl (a : Agent) (s : State) : Turns a 0 s s :=
  ⟨rfl, fun _ => by rw [elapse_zero]; rfl⟩

theorem Turns.trans {a : Agent} {m n : Nat} {s u w : State} (h1 : Turns a m s u)
    (h2 : Turns a n (elapse a m u) (elapse a m w)) (hw : w.sched = s.sched := by rfl) :
    Turns a (m + n) s w := by
  refine ⟨hw, fun h => ?_⟩
  rw [runSteps_add (h1.2 (turnsOf_left h)), h2.2 (turnsOf_right h1.1 h), elapse_elapse]

/-- One host turn. -/
theorem Turns.host {s u : State} (h : turn s = .host → step s = .next (closeHostTurn u))
    (hs : u.sched = s.sched := by rfl) : Turns .host 1 s u :=
  ⟨hs, fun ht => by
    rw [runSteps_one (h (turn_of_turnsOf ht)), closeHostTurn, elapse, List.drop_one]⟩

/-- The flag of contention is as the close of a cycle leaves it: the core does not drive, or the
console has driven against it before. -/
def Settled (s : State) : Prop := driving s = false ∨ s.contention = true

theorem closeCycle_of_settled {s u : State} (h : Settled s) (ha : EngineActs s u) :
    closeCycle s u = elapse .engine 1 u := by
  have hc : (u.contention || clash s) = u.contention := by
    rw [Frames.acts_keeps_contention ha]
    obtain h | h := h <;> simp [clash, h]
  simp [closeCycle, elapse, hc]

theorem acts_keeps_sched {s u : State} (ha : EngineActs s u) : u.sched = s.sched := by
  cases ha <;> rfl

/-- One engine cycle. -/
theorem Turns.engine {s u : State} (hq : Settled s) (ha : EngineActs s u) : Turns .engine 1 s u :=
  ⟨acts_keeps_sched ha, fun ht => by
    rw [runSteps_one (step_of_acts (turn_of_turnsOf ht) ha), closeCycle_of_settled hq ha]⟩

/-! ## Receiving and recovering -/

/-- Where an operation goes on does not depend on where it stood. -/
theorem receivedNothing_hostAt (k : RecvFor) (p : HostPos) (s : State) :
    receivedNothing k (hostAt p s) = receivedNothing k s := by
  cases k with
  | direct | handshake | waitForPoll => rfl
  | discard n =>
    simp only [receivedNothing, afterDiscard]
    split <;> rfl

theorem receivedNothing_elapse (k : RecvFor) (n : Nat) (s : State) :
    receivedNothing k (elapse .host n s) = elapse .host n (receivedNothing k s) := by
  cases k with
  | direct | handshake | waitForPoll => rfl
  | discard m =>
    simp only [receivedNothing, afterDiscard]
    split <;> rfl

theorem receivedNothing_sched (k : RecvFor) (s : State) :
    (receivedNothing k s).sched = s.sched := by
  cases k with
  | direct | handshake | waitForPoll => rfl
  | discard n =>
    simp only [receivedNothing, afterDiscard]
    split <;> rfl

theorem receive_turns {s : State} {n t0 : Nat} {k : RecvFor} (hh : s.host = .testQueue n t0 k)
    (hx : s.rxq = []) (hle : n ≤ s.tick - t0) (h2 : secondThreadCalls s = false) :
    Turns .host 2 s (receivedNothing k s) := by
  have h1 : Turns .host 1 s (hostAt (.testClock n t0 k) s) :=
    .host fun ht => (step_of_testQueue ht h2 hh).1 hx
  refine h1.trans (n := 1) ?_ (receivedNothing_sched k s)
  rw [← receivedNothing_hostAt k (.testClock n t0 k) s, ← receivedNothing_elapse]
  exact .host (fun ht => (step_of_testClock ht h2 rfl).2 hle) (receivedNothing_sched k _)

/-- Settles O52: the queue test finds nothing, the clock test ends the receive. -/
theorem receiveReturnsWithinAPairOfHostSteps :
    Obligations.ReceiveReturnsWithinAPairOfHostSteps := by
  intro s timeout t0 k hh hx hle h2 hs
  rw [(receive_turns hh hx hle h2).2 hs, elapse, receivedNothing_sched]

/-- Settles O59: the delay ends, and the recovery returns to its operation. -/
theorem errorRecoveryRestartsAndReturnsToIdle :
    Obligations.ErrorRecoveryRestartsAndReturnsToIdle := by
  intro s deadline k hh hle h2 hs
  have h1 : Turns .host 1 s (hostAt (.recoverRestart k) s) :=
    .host fun ht => (step_of_delay ht h2 hh).2 hle
  cases k with
  | handshake =>
    exact (h1.trans (n := 1) (w := leaveErrorRecovery .handshake s)
      (.host fun ht => step_of_recoverRestart ht h2 rfl)).2 hs
  | waitForPoll =>
    exact (h1.trans (n := 1) (w := leaveErrorRecovery .waitForPoll s)
      (.host fun ht => step_of_recoverRestart ht h2 rfl)).2 hs

/-! ## Sending -/

theorem sendReturns_hostAt (k : SendFor) (p : HostPos) (s : State) :
    sendReturns k (hostAt p s) = sendReturns k s := by
  cases k <;> rfl

theorem sendReturns_elapse (k : SendFor) (n : Nat) (s : State) :
    sendReturns k (elapse .host n s) = elapse .host n (sendReturns k s) := by
  cases k <;> rfl

theorem sendReturns_sched (k : SendFor) (s : State) : (sendReturns k s).sched = s.sched := by
  cases k <;> rfl

/-- The pushes from byte `i` on, with room for what is left of the payload: one word a byte, the
last flagged, and the send returns. -/
theorem push_turns {p : List Byte} {k : SendFor} (left : List Byte) {i : Nat} {s : State}
    (hh : s.host = .push p i k) (hp : p.drop i = left) (hne : left ≠ [])
    (hroom : s.txq.length + left.length ≤ s.cfg.qdepth) (h2 : secondThreadCalls s = false) :
    Turns .host left.length s (sendReturns k { s with txq := s.txq ++ txWords left }) := by
  induction left generalizing i s with
  | nil => exact absurd rfl hne
  | cons b left ih =>
    have hb : p[i]? = some b := by
      rw [← List.head?_drop, hp]
      rfl
    have hrest : p.drop (i + 1) = left := by
      rw [← List.drop_drop, hp]
      rfl
    have hlen : p.length - i = left.length + 1 := by
      rw [← List.length_drop, hp]
      rfl
    rw [List.length_cons] at hroom ⊢
    cases left with
    | nil =>
      exact .host (fun ht => (step_of_push ht h2 hh hb).2.2 (by omega) (by simp at hlen; omega))
        (sendReturns_sched k _)
    | cons c left =>
      rw [List.length_cons] at hlen hroom
      have h1 : Turns .host 1 s (hostAt (.push p (i + 1) k) (pushTxq (txWord b false) s)) :=
        .host fun ht => (step_of_push ht h2 hh hb).2.1 (by omega) (by omega)
      have hmore := ih
        (s := elapse .host 1 (hostAt (.push p (i + 1) k) (pushTxq (txWord b false) s)))
        rfl hrest nofun (by simp [elapse]; omega) h2
      rw [Nat.add_comm]
      refine h1.trans ?_ (sendReturns_sched k _)
      rw [← sendReturns_elapse, ← sendReturns_hostAt k (.push p (i + 1) k)]
      simpa [elapse, pushTxq, hostAt, txWords] using hmore

/-- A send with the wire high whose payload fits the empty queue. -/
theorem send_turns {s : State} {p : List Byte} {k : SendFor} (hh : s.host = .waitLine p k)
    (hne : p ≠ []) (hroom : p.length ≤ s.cfg.qdepth) (hl : line s = true)
    (h2 : secondThreadCalls s = false) :
    Turns .host (2 + p.length) s (sendReturns k { restartForWrite s with txq := txWords p }) := by
  have h1 : Turns .host 1 s (hostAt (.restartWrite p k) s) :=
    .host fun ht => (step_of_waitLine ht h2 hh).2 hl
  have h3 : Turns .host 2 s (hostAt (.push p 0 k) (restartForWrite s)) :=
    h1.trans (n := 1) (.host fun ht => step_of_restartWrite ht h2 rfl)
  have hpush := push_turns (k := k) p
    (s := elapse .host 2 (hostAt (.push p 0 k) (restartForWrite s)))
    rfl rfl hne (by simpa [elapse, restartForWrite] using hroom) h2
  refine h3.trans ?_ (sendReturns_sched k _)
  rw [← sendReturns_elapse, ← sendReturns_hostAt k (.push p 0 k)]
  exact hpush

/-- Settles O56: the line-idle wait, the restart and the pushes. -/
theorem sendQueuesTheWholePayload : Obligations.SendQueuesTheWholePayload := by
  rintro s payload k n hh hne hroom hl h2 rfl hs
  rw [Nat.add_comm] at hs ⊢
  rw [(send_turns hh hne hroom hl h2).2 hs, elapse, sendReturns_sched]
  rfl

/-! ## A wire that is never released -/

/-- An invariant that no step leaves or stops in holds after any number of steps. -/
theorem runSteps_invariant {P : State → Prop} (h : ∀ s, P s → ∃ t, step s = .next t ∧ P t) (n : Nat)
    {s : State} (hs : P s) : ∃ t, runSteps n s = .next t ∧ P t := by
  induction n generalizing s with
  | zero => exact ⟨s, rfl, hs⟩
  | succ n ih =>
    obtain ⟨t, ht, hp⟩ := h s hs
    simpa [runSteps, ht] using ih hp

/-- A send waits for a wire the console holds low for ever, with the engine in read mode (R342). -/
structure HeldLow (p : List Byte) (k : SendFor) (q : List Word) (s : State) : Prop where
  host : s.host = .waitLine p k
  alone : secondThreadCalls s = false
  mode : readMode s.cursor = true
  dir : s.dir = .input
  script : ∀ d ∈ s.console, d = Drive.driveLow
  rest : s.consoleRest = .hold .driveLow
  txq : s.txq = q

theorem HeldLow.line {p : List Byte} {k : SendFor} {q : List Word} {s : State}
    (h : HeldLow p k q s) : line s = false := by
  have hd : driving s = false := MicroStates.not_driving (.inr h.dir)
  simp [Machine.line, hd, consoleNow_of_endless_low h.script h.rest]

theorem HeldLow.step {p : List Byte} {k : SendFor} {q : List Word} {s : State}
    (h : HeldLow p k q s) : ∃ t, step s = .next t ∧ HeldLow p k q t := by
  cases ht : turn s with
  | host =>
    exact ⟨_, (step_of_waitLine ht h.alone h.host).1 h.line, { h with }⟩
  | engine =>
    obtain ⟨u, ha⟩ | ⟨-, hq, -⟩ := engineActs_or_underflows s
    · have hstep := step_of_acts ht ha
      obtain ⟨-, -, -, hh, -, hc, -, -, -, -, hcon, hrest⟩ :=
        Frames.engineCycleLeavesTheSessionAlone _ _ hstep ht
      have hside := HalfDuplex.transmitSide_eq_iff.mp
        (HalfDuplex.step_engine_keeps_transmitSide hstep ht h.mode)
      have hdir : engineDir s = .input := by
        by_cases he : s.ctr = 0 ∧ s.cursor = .rdEntry
        · exact engineDir_of_rdEntry he.1 he.2
        · have hw : s.cursor ≠ .wrEntry := fun hw => by simpa [hw, readMode] using h.mode
          rw [engineDir_of_not_entry (by tauto), h.dir]
      have hmode := Frames.acts_keeps_readMode h.mode ha
      refine ⟨_, hstep, hh.trans h.host, ?_, hmode,
        (step_engine_dir hstep ht).trans hdir, fun d hd => ?_, hrest.trans h.rest,
        hside.2.2.2.2.trans h.txq⟩
      · rw [secondThreadCalls, hc]
        exact h.alone
      · rw [hcon] at hd
        exact h.script d (List.mem_of_mem_tail hd)
    · have hm := h.mode
      obtain hq | hq := hq <;> simp [hq, readMode] at hm

/-- Settles O57: the steps of a send are those of its positions; on a wire held low its first wait
is kept by every turn of both agents. -/
theorem sendWaitsForTheLineAndForRoom : Obligations.SendWaitsForTheLineAndForRoom := by
  intro s p k h2
  refine ⟨fun ht => ⟨fun hh => (step_of_waitLine ht h2 hh).1,
    fun hh => (step_of_waitLine ht h2 hh).2, fun hh => step_of_restartWrite ht h2 hh,
    fun i b hb hh => step_of_push ht h2 hh hb⟩,
    fun hh hm hd hs hr n => ?_⟩
  obtain ⟨t, ht, hinv⟩ := runSteps_invariant (fun _ => HeldLow.step) n
    (⟨hh, h2, hm, hd, hs, hr, rfl⟩ : HeldLow p k s.txq s)
  exact ⟨t, ht, hinv.host, hinv.line, hinv.mode, hinv.dir, hinv.txq⟩

/-! ## A canned reply -/

/-- The read loop waits for an edge as long as the wire stays high. -/
theorem idle_turns {s : State} {n : Nat} (hq : s.cursor = .rdWaitLow) (hc : s.ctr = 0)
    (hd : driving s = false) (hl : ∀ i < n, line (elapse .engine i s) = true) :
    Turns .engine n s s := by
  induction n with
  | zero => exact .refl _ _
  | succ n ih =>
    have hacts : EngineActs (elapse .engine n s) (elapse .engine n s) :=
      .lineStillHigh hc hq (hl n (Nat.lt_succ_self n))
    exact (ih fun i hi => hl i (Nat.lt_succ_of_lt hi)).trans (.engine (.inl hd) hacts)

/-- A wire nobody drives stays high. -/
theorem line_of_quiet {s : State} (hd : driving s = false) (hs : s.console = [])
    (hr : s.consoleRest = .hold .release) (n : Nat) : line (elapse .engine n s) = true :=
  (line_of_released (s := elapse .engine n s) hd).mpr
    (consoleNow_of_hold (by simp [elapse, hs]) hr)

/-- The reply to a canned command from its dispatch on: the delay passes on a quiet wire, and the
send follows. -/
theorem reply_turns {s : State} {p : List Byte} {k : SendFor} {rest : List Agent} {d : Nat}
    (hh : s.host = .delay (s.now + d) (.reply p k)) (hq : s.cursor = .rdWaitLow) (hc : s.ctr = 0)
    (hi : s.dir = .input) (hs : s.console = [])
    (hr : s.consoleRest = .hold .release) (h2 : secondThreadCalls s = false) (hne : p ≠ [])
    (hroom : p.length ≤ s.cfg.qdepth)
    (hsched : s.sched =
      List.replicate d .engine ++ (List.replicate (p.length + 3) .host ++ rest)) :
    runSteps (d + (p.length + 3)) s =
      .next (elapse .host (p.length + 3)
        (sendReturns k { restartForWrite (elapse .engine d s) with txq := txWords p })) := by
  have hdrive : driving s = false := MicroStates.not_driving (.inr hi)
  have hidle := idle_turns (n := d) hq hc hdrive fun i _ => line_of_quiet hdrive hs hr i
  rw [runSteps_add (hidle.2 (by simp [turnsOf, hsched]))]
  have h1 : Turns .host 1 (elapse .engine d s) (hostAt (.waitLine p k) (elapse .engine d s)) :=
    .host fun ht => (step_of_delay ht h2 hh).2 (le_refl (s.now + d))
  have hsend := send_turns (k := k)
    (s := elapse .host 1 (hostAt (.waitLine p k) (elapse .engine d s))) rfl hne hroom
    (line_of_quiet hdrive hs hr _) h2
  have hall := h1.trans (w := sendReturns k
    { restartForWrite (elapse .engine d s) with txq := txWords p }) (n := 2 + p.length) (by
      rw [← sendReturns_elapse, ← sendReturns_hostAt k (.waitLine p k)]
      exact hsend) (sendReturns_sched k _)
  rw [show p.length + 3 = 1 + (2 + p.length) by omega] at hsched ⊢
  exact hall.2 (by simp [turnsOf, hsched])

/-- The state a canned reply leaves before its send returns. -/
def replied (p : List Byte) (s : State) : State :=
  { s with
    rxq := [], txq := txWords p, isr := 0, isrCnt := 0, osrCnt := 0, cursor := .wrEntry
    now := s.now + dResp * s.cfg.k, tick := s.tick + dResp * s.cfg.k * s.cfg.ticksPerCycle }

/-- From a dispatch that begins a reply to the reply's return. -/
theorem dispatch_reply {s : State} {p : List Byte} {k : SendFor} {ph : Phase} {rest : List Agent}
    (hmove : hostMove s = .next (beginReply p k (setPhase ph s))) (hq : s.cursor = .rdWaitLow)
    (hc : s.ctr = 0) (hd : s.dir = .input) (hs : s.console = [])
    (hr : s.consoleRest = .hold .release) (h2 : secondThreadCalls s = false) (hne : p ≠ [])
    (hroom : p.length ≤ s.cfg.qdepth)
    (hsched : s.sched = .host ::
      (List.replicate (dResp * s.cfg.k) .engine ++ (List.replicate (p.length + 3) .host ++ rest))) :
    runSteps (1 + dResp * s.cfg.k + (p.length + 3)) s =
      .next (sendReturns k (setPhase ph { replied p s with sched := rest })) := by
  have hstep : step s = .next (closeHostTurn (beginReply p k (setPhase ph s))) := by
    rw [step_of_host (turn_of_sched hsched), hmove, onNext_next]
  have hrun := reply_turns (s := closeHostTurn (beginReply p k (setPhase ph s))) (rest := rest)
    rfl hq hc hd hs hr h2 hne hroom (by simp [beginReply, delayUs, setPhase, hsched])
  rw [Nat.add_assoc, runSteps_add (runSteps_one hstep)]
  refine hrun.trans (congrArg Host.Outcome.next ?_)
  rw [← sendReturns_elapse, ← sendReturns_hostAt k .outside,
    ← sendReturns_hostAt k .outside (setPhase ph _)]
  simp [elapse, restartForWrite, restartAt, closeHostTurn, beginReply, delayUs, hostAt, setPhase,
    replied, hs, hc, hsched]

/-- The response to a canned command, by its byte. -/
theorem hostMove_of_canned {s : State} {b : Byte} (hb : s.host = .dispatch b) :
    (s.phase = .handshaking →
      (b = 0x00#8 ∨ b = 0xFF#8 →
        hostMove s = .next (beginReply idReply .handshake (setPhase .respondingResetOrProbe s))) ∧
      (b = 0x41#8 ∨ b = 0x42#8 → hostMove s =
        .next (beginReply calReplyHs .handshake (setPhase .respondingRecalOrOrigin s)))) ∧
    (s.phase = .idle →
      (b = 0x00#8 ∨ b = 0xFF#8 →
        hostMove s = .next (beginReply idReply .waitForPoll (setPhase .respondingResetOrProbe s))) ∧
      (b = 0x41#8 ∨ b = 0x42#8 → hostMove s =
        .next (beginReply calReplySs .waitForPoll (setPhase .respondingRecalOrOrigin s)))) := by
  obtain ⟨hh, hi, -⟩ := hostMove_of_dispatch hb
  refine ⟨fun hp => ⟨?_, ?_⟩, fun hp => ⟨?_, ?_⟩⟩ <;> rintro (rfl | rfl)
  · exact hh hp
  · exact hh hp
  · exact hh hp
  · exact hh hp
  · exact hi hp
  · exact hi hp
  · exact hi hp
  · exact hi hp

/-- Settles O60: the dispatch begins the reply, and the reply runs to its return. -/
theorem cannedReplyIsQueuedAfterItsDelay : Obligations.CannedReplyIsQueuedAfterItsDelay := by
  rintro s b payload rest n hb hq hc hd hs hr h2 hroom rfl hsched
  obtain ⟨hh, hi⟩ := hostMove_of_canned hb
  refine ⟨fun hp => ?_, fun hp => ?_⟩ <;> rintro (⟨hcmd, rfl⟩ | ⟨hcmd, rfl⟩)
  · exact dispatch_reply ((hh hp).1 hcmd) hq hc hd hs hr h2 nofun hroom hsched
  · exact dispatch_reply ((hh hp).2 hcmd) hq hc hd hs hr h2 nofun hroom hsched
  · exact dispatch_reply ((hi hp).1 hcmd) hq hc hd hs hr h2 nofun hroom hsched
  · exact dispatch_reply ((hi hp).2 hcmd) hq hc hd hs hr h2 nofun hroom hsched

end Sys2Proof.Proofs.Runs
end

section
/-! The reception of a console frame (20_memory.md R92; 40_signal_engine.md R164 to R170). A bit
cell is sampled in the middle of its value phase (`bit_sampled`), and the read loop is at the next
falling edge when the next cell begins (`cell_turns`, `byte_received`). -/

open Sys2Proof Sys2Proof.Machine

namespace Sys2Proof.Proofs.Reception

open Moves Runs MicroStates

/-! ## The console's cells -/

/-- The console's drive in cycle `i` of a cell. -/
def cellDrive (c : Config) (v : Bool) (i : Nat) : Drive :=
  if i < c.k then .driveLow
  else if i < 3 * c.k then (if v then .release else .driveLow)
  else .release

theorem consoleCell_length (c : Config) (v : Bool) : (consoleCell c v).length = 4 * c.k := by
  simp only [consoleCell, List.length_append, List.length_replicate, lenC1_eq, lenC2_eq, lenC3_eq]
  omega

theorem consoleCell_getElem? {c : Config} {v : Bool} {i : Nat} (hi : i < 4 * c.k)
    (rest : List Drive) : (consoleCell c v ++ rest)[i]? = some (cellDrive c v i) := by
  rw [List.getElem?_append_left (by rwa [consoleCell_length])]
  simp only [consoleCell, lenC1_eq, lenC2_eq, lenC3_eq, List.getElem?_append,
    List.getElem?_replicate, List.length_append, List.length_replicate, cellDrive]
  by_cases h1 : i < c.k
  · have h2 : i < c.k + 2 * c.k := by omega
    simp [h1, h2]
  · by_cases h2 : i < 3 * c.k
    · have h3 : i < c.k + 2 * c.k := by omega
      have h4 : i - c.k < 2 * c.k := by omega
      simp [h1, h2, h3, h4]
    · have h3 : ¬ i < c.k + 2 * c.k := by omega
      have h4 : i - (c.k + 2 * c.k) < c.k := by omega
      simp [h1, h2, h3, h4]

/-- A cell of value 0 is low up to its last slice. -/
theorem cellDrive_low {c : Config} {i : Nat} (h : i < 3 * c.k) :
    cellDrive c false i = .driveLow := by
  simp [cellDrive, h]

/-- A cell of value 1 is released after its first slice. -/
theorem cellDrive_high {c : Config} {i : Nat} (h : c.k ≤ i) : cellDrive c true i = .release := by
  simp [cellDrive, Nat.not_lt.mpr h]

/-- Every cell is released in its last slice. -/
theorem cellDrive_last {c : Config} {v : Bool} {i : Nat} (h : 3 * c.k ≤ i) :
    cellDrive c v i = .release := by
  have h1 : ¬ i < c.k := by omega
  simp [cellDrive, h1, Nat.not_lt.mpr h]

theorem cellDrive_edge {c : Config} (hk : 9 ≤ c.k) (v : Bool) : cellDrive c v 0 = .driveLow := by
  have h : 0 < c.k := by omega
  simp [cellDrive, h]

theorem cellDrive_sample {c : Config} (hk : 9 ≤ c.k) (v : Bool) :
    cellDrive c v (2 * c.k) = if v then .release else .driveLow := by
  cases v with
  | false => exact cellDrive_low (by omega)
  | true => exact cellDrive_high (by omega)

/-- The level a core that does not drive reads `i` cycles on. -/
theorem line_elapse {s : State} {i : Nat} {d : Drive} (hd : driving s = false)
    (h : s.console[i]? = some d) : line (elapse .engine i s) = decide (d = .release) := by
  have hcon : (elapse .engine i s).console = d :: s.console.drop (i + 1) :=
    List.drop_eq_getElem?_toList_append.trans (by rw [h]; rfl)
  have hd' : driving (elapse .engine i s) = false := hd
  simp [line, hd', consoleNow_of_script hcon]

/-! ## Waiting -/

/-- A delay passes, the cursor held. -/
theorem delay_turns {s : State} (hu : s.cursor ≠ .unstarted) (hq : Settled s) {n : Nat}
    (hn : n ≤ s.ctr) : Turns .engine n s { s with ctr := s.ctr - n } := by
  induction n with
  | zero => exact .refl _ _
  | succ n ih =>
    have hleft : s.ctr - n ≠ 0 := by omega
    have hacts : EngineActs (elapse .engine n { s with ctr := s.ctr - n })
        (elapse .engine n { s with ctr := s.ctr - (n + 1) }) := .delay hu hleft
    exact (ih (by omega)).trans (.engine hq hacts)

/-- The read loop waits while the wire is low. -/
theorem low_turns {s : State} {m : Nat} (hq : s.cursor = .rdWaitHigh) (hc : s.ctr = 0)
    (hd : s.dir = .input) (hlow : ∀ i < m, s.console[i]? = some .driveLow) :
    Turns .engine m s s := by
  have hnd : driving s = false := MicroStates.not_driving (.inr hd)
  induction m with
  | zero => exact .refl _ _
  | succ m ih =>
    have hl : line (elapse .engine m s) = false := line_elapse hnd (hlow m (Nat.lt_succ_self m))
    have hacts : EngineActs (elapse .engine m s) (elapse .engine m s) := .lineStillLow hc hq hl
    exact (ih fun i hi => hlow i (Nat.lt_succ_of_lt hi)).trans (.engine (.inl hnd) hacts)

/-- Once the wire is high the read loop waits for the next edge. -/
theorem high_turns {s : State} {m n : Nat} (hq : s.cursor = .rdWaitHigh) (hc : s.ctr = 0)
    (hd : s.dir = .input) (hlow : ∀ i < m, s.console[i]? = some .driveLow)
    (hhigh : ∀ i ≤ n, s.console[m + i]? = some .release) :
    Turns .engine (m + 1 + n) s (goTo .rdWaitLow s) := by
  have hnd : driving s = false := MicroStates.not_driving (.inr hd)
  have hl : line (elapse .engine m s) = true := line_elapse hnd (hhigh 0 (Nat.zero_le n))
  have hrise : Turns .engine (m + 1) s (goTo .rdWaitLow s) :=
    (low_turns hq hc hd hlow).trans (.engine (.inl hnd) (.lineHigh hc hq hl))
  have hnd' : driving (elapse .engine (m + 1) (goTo .rdWaitLow s)) = false :=
    MicroStates.not_driving (.inr hd)
  refine hrise.trans (idle_turns rfl hc hnd' fun i hi => ?_)
  have hnext : s.console[m + 1 + i]? = some .release := by
    rw [Nat.add_assoc, Nat.add_comm 1 i]
    exact hhigh (i + 1) hi
  exact line_elapse (d := .release) hnd' (by simpa [elapse, goTo, List.getElem?_drop] using hnext)

/-! ## One bit -/

/-- The read loop waits for an edge, and the core does not drive the wire. -/
structure Listening (s : State) : Prop where
  cursor : s.cursor = .rdWaitLow
  ctr : s.ctr = 0
  dir : s.dir = .input
  k : 9 ≤ s.cfg.k

theorem Listening.not_driving {s : State} (h : Listening s) : driving s = false :=
  MicroStates.not_driving (.inr h.dir)

/-- From the falling edge to the middle of the value phase (R166). -/
theorem edge_to_sample {s : State} (h : Listening s) (hlow : s.console[0]? = some .driveLow) :
    Turns .engine (2 * s.cfg.k) s { s with cursor := .rdSample } := by
  have hl : line s = false := by
    simpa [elapse_zero] using line_elapse h.not_driving hlow
  have hload : lenC1 s.cfg + lenC2 s.cfg / 2 - 1 = 2 * s.cfg.k - 1 := by
    rw [lenC1_eq, lenC2_eq]
    omega
  have hedge : Turns .engine 1 s (delayThen (2 * s.cfg.k - 1) .rdSample s) :=
    .engine (.inl h.not_driving) (hload ▸ .fallingEdge h.ctr h.cursor hl)
  have hk := h.k
  have hsum : 2 * s.cfg.k = 1 + (2 * s.cfg.k - 1) := by omega
  rw [hsum]
  refine hedge.trans ?_
  have hwait := delay_turns (s := elapse .engine 1 (delayThen (2 * s.cfg.k - 1) .rdSample s)) nofun
    (.inl (MicroStates.not_driving (.inr h.dir))) (n := 2 * s.cfg.k - 1) le_rfl
  simpa [elapse, delayThen, h.ctr] using hwait

/-- The sample is the console's level two slices into the cell (R167). -/
theorem line_at_sample {s : State} {v : Bool} (h : Listening s)
    (hv : s.console[2 * s.cfg.k]? = some (if v then .release else .driveLow)) :
    line (elapse .engine (2 * s.cfg.k) { s with cursor := .rdSample }) = v := by
  rw [line_elapse (s := { s with cursor := .rdSample }) (MicroStates.not_driving (.inr h.dir)) hv]
  cases v <;> rfl

/-- A bit that does not complete its byte is shifted in. -/
theorem bit_sampled {s : State} {v : Bool} (h : Listening s)
    (hlow : s.console[0]? = some .driveLow)
    (hv : s.console[2 * s.cfg.k]? = some (if v then .release else .driveLow)) (h7 : s.isrCnt ≠ 7) :
    Turns .engine (2 * s.cfg.k + 1) s (goTo .rdWaitHigh (shiftIn v s)) := by
  refine (edge_to_sample h hlow).trans (.engine (.inl (MicroStates.not_driving (.inr h.dir))) ?_)
  have hacts := EngineActs.sample (s := elapse .engine (2 * s.cfg.k) { s with cursor := .rdSample })
    h.ctr rfl h7
  rw [line_at_sample h hv] at hacts
  exact hacts

/-- The eighth bit delivers its byte where there is room (R168). -/
theorem bit_delivered {s : State} {v : Bool} (h : Listening s)
    (hlow : s.console[0]? = some .driveLow)
    (hv : s.console[2 * s.cfg.k]? = some (if v then .release else .driveLow)) (h7 : s.isrCnt = 7)
    (hr : rxFull s = false) : Turns .engine (2 * s.cfg.k + 1) s (deliver (shiftIn v s)) := by
  refine (edge_to_sample h hlow).trans (.engine (.inl (MicroStates.not_driving (.inr h.dir))) ?_)
  have hacts := EngineActs.sampleLast
    (s := elapse .engine (2 * s.cfg.k) { s with cursor := .rdSample }) h.ctr rfl h7 hr
  rw [line_at_sample h hv] at hacts
  exact hacts

/-! ## One cell -/

/-- After its sample a cell leaves the read loop at its next falling edge: a 1 is high already, a 0
rises in the last slice. -/
theorem cell_tail {s : State} {v : Bool} {rest : List Drive} (hq : s.cursor = .rdWaitHigh)
    (hc : s.ctr = 0) (hd : s.dir = .input) (hk : 9 ≤ s.cfg.k)
    (hs : s.console = (consoleCell s.cfg v ++ rest).drop (2 * s.cfg.k + 1)) :
    Turns .engine (2 * s.cfg.k - 1) s (goTo .rdWaitLow s) := by
  have hdrive : ∀ i, i + 1 < 2 * s.cfg.k →
      s.console[i]? = some (cellDrive s.cfg v (2 * s.cfg.k + 1 + i)) := by
    intro i hi
    rw [hs, List.getElem?_drop, consoleCell_getElem? (by omega)]
  cases v with
  | true =>
    have hsum : 2 * s.cfg.k - 1 = 0 + 1 + (2 * s.cfg.k - 2) := by omega
    rw [hsum]
    refine high_turns hq hc hd nofun fun i hi => ?_
    rw [hdrive _ (by omega), cellDrive_high (by omega)]
  | false =>
    have hsum : 2 * s.cfg.k - 1 = s.cfg.k - 1 + 1 + (s.cfg.k - 1) := by omega
    rw [hsum]
    refine high_turns hq hc hd (fun i hi => ?_) fun i hi => ?_
    · rw [hdrive i (by omega), cellDrive_low (by omega)]
    · rw [hdrive _ (by omega), cellDrive_last (by omega)]

/-- A whole cell, for either thing its sample can come to. -/
theorem cell_turns {s u : State} {v : Bool} {rest : List Drive} (h : Listening s)
    (hs : s.console = consoleCell s.cfg v ++ rest)
    (hsample : Turns .engine (2 * s.cfg.k + 1) s u) (hq : u.cursor = .rdWaitHigh)
    (hside : u.ctr = s.ctr ∧ u.dir = s.dir ∧ u.cfg = s.cfg ∧ u.console = s.console) :
    Turns .engine (4 * s.cfg.k) s (goTo .rdWaitLow u) := by
  obtain ⟨hctr, hdir, hcfg, hcon⟩ := hside
  have hk := h.k
  have hsum : 4 * s.cfg.k = 2 * s.cfg.k + 1 + (2 * s.cfg.k - 1) := by omega
  have htail := cell_tail (s := elapse .engine (2 * s.cfg.k + 1) u) (v := v) (rest := rest) hq
    (hctr.trans h.ctr) (hdir.trans h.dir) (hcfg.symm ▸ h.k) (by simp [elapse, hcon, hs, hcfg])
  have hcfg' : (elapse .engine (2 * s.cfg.k + 1) u).cfg = s.cfg := hcfg
  rw [hcfg'] at htail
  rw [hsum]
  exact hsample.trans htail hsample.1

section
variable {s : State} {v : Bool} {rest : List Drive}

/-- A cell that does not complete its byte. -/
theorem cell_shifted (h : Listening s) (hs : s.console = consoleCell s.cfg v ++ rest)
    (h7 : s.isrCnt ≠ 7) : Turns .engine (4 * s.cfg.k) s
      { s with isr := (s.isr <<< 1) ||| bit v, isrCnt := s.isrCnt + 1 } := by
  have hk := h.k
  have hlow := consoleCell_getElem? (c := s.cfg) (v := v) (i := 0) (by omega) rest
  have hval := consoleCell_getElem? (c := s.cfg) (v := v) (i := 2 * s.cfg.k) (by omega) rest
  rw [← hs, cellDrive_edge h.k] at hlow
  rw [← hs, cellDrive_sample h.k] at hval
  have hcell := cell_turns h hs (bit_sampled h hlow hval h7) rfl ⟨rfl, rfl, rfl, rfl⟩
  simpa [goTo, shiftIn, ← h.cursor] using hcell

/-- The cell that completes its byte. -/
theorem cell_delivered (h : Listening s) (hs : s.console = consoleCell s.cfg v ++ rest)
    (h7 : s.isrCnt = 7) (hr : rxFull s = false) : Turns .engine (4 * s.cfg.k) s
      { s with rxq := s.rxq ++ [(s.isr <<< 1) ||| bit v], isr := 0, isrCnt := 0 } := by
  have hk := h.k
  have hlow := consoleCell_getElem? (c := s.cfg) (v := v) (i := 0) (by omega) rest
  have hval := consoleCell_getElem? (c := s.cfg) (v := v) (i := 2 * s.cfg.k) (by omega) rest
  rw [← hs, cellDrive_edge h.k] at hlow
  rw [← hs, cellDrive_sample h.k] at hval
  have hcell := cell_turns h hs (bit_delivered h hlow hval h7 hr) rfl ⟨rfl, rfl, rfl, rfl⟩
  simpa [goTo, deliver, pushRxq, shiftIn, ← h.cursor] using hcell

end

/-! ## A byte and a frame -/

/-- The partial byte after some more bits (R167). -/
def shiftBits (isr : Byte) (bits : List Bool) : Byte :=
  bits.foldl (fun acc v => (acc <<< 1) ||| bit v) isr

/-- Bits that do not complete the byte. -/
theorem bits_shifted (bits : List Bool) {s : State} {rest : List Drive} (h : Listening s)
    (hs : s.console = bits.flatMap (consoleCell s.cfg) ++ rest)
    (h7 : s.isrCnt + bits.length ≤ 7) : Turns .engine (bits.length * (4 * s.cfg.k)) s
      { s with isr := shiftBits s.isr bits, isrCnt := s.isrCnt + bits.length } := by
  induction bits generalizing s with
  | nil => simpa [shiftBits] using Turns.refl .engine s
  | cons v bits ih =>
    rw [List.length_cons] at h7
    rw [List.flatMap_cons, List.append_assoc] at hs
    have hfirst := cell_shifted h hs (by omega)
    have hmore := ih (s := elapse .engine (4 * s.cfg.k)
      { s with isr := (s.isr <<< 1) ||| bit v, isrCnt := s.isrCnt + 1 })
      ⟨h.cursor, h.ctr, h.dir, h.k⟩
      (by simp [elapse, hs, List.drop_left' (consoleCell_length s.cfg v)])
      (by simp [elapse]; omega)
    rw [List.length_cons, Nat.succ_mul, Nat.add_comm]
    refine hfirst.trans ?_
    simpa [elapse, shiftBits, Nat.add_assoc, Nat.add_comm 1] using hmore

/-- Eight samples, most significant first, make up the byte (R86, R167). -/
theorem shiftBits_wireBits (b : Byte) : shiftBits 0 (wireBits b) = b := by
  apply BitVec.eq_of_getElem_eq
  intro i hi
  interval_cases i <;> simp [shiftBits, wireBits, PollReport.bit_getElem]

theorem flatMap_cells_length (c : Config) (bits : List Bool) :
    (bits.flatMap (consoleCell c)).length = bits.length * (4 * c.k) := by
  simp [List.length_flatMap, consoleCell_length]

theorem wireBits_length (bytes : List Byte) :
    (bytes.flatMap wireBits).length = bytes.length * 8 := by
  simp [List.length_flatMap, wireBits]

/-- One byte of a frame, with no partial byte before it and room in RXQ. -/
theorem byte_received {s : State} {b : Byte} {rest : List Drive} (h : Listening s)
    (hs : s.console = (wireBits b).flatMap (consoleCell s.cfg) ++ rest) (hi : s.isr = 0)
    (hc : s.isrCnt = 0) (hr : rxFull s = false) :
    Turns .engine (8 * (4 * s.cfg.k)) s { s with rxq := s.rxq ++ [b] } := by
  obtain ⟨first, last, hbits, hlen⟩ :
      ∃ first last, wireBits b = first ++ [last] ∧ first.length = 7 :=
    ⟨[b.getLsbD 7, b.getLsbD 6, b.getLsbD 5, b.getLsbD 4, b.getLsbD 3, b.getLsbD 2, b.getLsbD 1],
      b.getLsbD 0, rfl, rfl⟩
  have hval : (shiftBits s.isr first <<< 1) ||| bit last = b := by
    rw [hi, ← shiftBits_wireBits b, hbits]
    simp [shiftBits]
  rw [hbits, List.flatMap_append, List.append_assoc] at hs
  have hfirst := bits_shifted first h hs (by omega)
  rw [hlen] at hfirst
  have hlast := cell_delivered (v := last) (rest := rest)
    (s := elapse .engine (7 * (4 * s.cfg.k))
      { s with isr := shiftBits s.isr first, isrCnt := s.isrCnt + 7 })
    ⟨h.cursor, h.ctr, h.dir, h.k⟩
    (by simp [elapse, hs,
      List.drop_left' ((flatMap_cells_length s.cfg first).trans (by rw [hlen]))])
    (by simp [elapse, hc]) hr
  rw [Nat.succ_mul 7]
  refine hfirst.trans ?_
  simpa [elapse, hval, ← hi, ← hc] using hlast

/-- A frame, with no partial byte before it and room in RXQ for all its bytes (R170). -/
theorem frame_received (bytes : List Byte) {s : State} {rest : List Drive} (h : Listening s)
    (hs : s.console = (bytes.flatMap wireBits).flatMap (consoleCell s.cfg) ++ rest)
    (hi : s.isr = 0) (hc : s.isrCnt = 0) (hroom : s.rxq.length + bytes.length ≤ s.cfg.qdepth) :
    Turns .engine (bytes.length * (8 * (4 * s.cfg.k))) s { s with rxq := s.rxq ++ bytes } := by
  induction bytes generalizing s with
  | nil => simpa using Turns.refl .engine s
  | cons b bytes ih =>
    rw [List.length_cons] at hroom
    rw [List.flatMap_cons, List.flatMap_append, List.append_assoc] at hs
    have hr : rxFull s = false := by
      simp only [rxFull, decide_eq_false_iff_not]
      omega
    have hfirst := byte_received h hs hi hc hr
    have hmore := ih (s := elapse .engine (8 * (4 * s.cfg.k)) { s with rxq := s.rxq ++ [b] })
      ⟨h.cursor, h.ctr, h.dir, h.k⟩
      ((congrArg (List.drop _) hs).trans
        (List.drop_left' (flatMap_cells_length s.cfg (wireBits b))))
      hi hc
      (by simp [elapse]; omega)
    rw [List.length_cons, Nat.succ_mul, Nat.add_comm]
    refine hfirst.trans ?_
    simpa [elapse] using hmore

/-- Settles O29: the frame's bytes, and the stop pulse sampled as a bit. -/
theorem consoleFrameIsReceivedAndLeavesAStrayBit :
    Obligations.ConsoleFrameIsReceivedAndLeavesAStrayBit := by
  rintro s bytes rest n - hcfg hq hc hd hi hcnt hroom hs rfl hsched
  have hk : 9 ≤ s.cfg.k := (HostOperations.configOk_iff.mp hcfg).1
  rw [consoleFrame, List.append_assoc] at hs
  have hframe := frame_received bytes ⟨hq, hc, hd, hk⟩ hs hi hcnt hroom
  have hlen : ((bytes.flatMap wireBits).flatMap (consoleCell s.cfg)).length =
      bytes.length * (8 * (4 * s.cfg.k)) := by
    rw [flatMap_cells_length, wireBits_length, Nat.mul_assoc]
  have hstop : s.console.drop (bytes.length * (8 * (4 * s.cfg.k))) =
      consoleCell s.cfg true ++ rest := by
    rw [hs, List.drop_left' hlen]
  have hlow := consoleCell_getElem? (c := s.cfg) (v := true) (i := 0) (by omega) rest
  have hval := consoleCell_getElem? (c := s.cfg) (v := true) (i := 2 * s.cfg.k) (by omega) rest
  rw [← hstop, cellDrive_edge hk] at hlow
  rw [← hstop, cellDrive_sample hk] at hval
  have hbit := bit_sampled (v := true)
    (s := elapse .engine (bytes.length * (8 * (4 * s.cfg.k))) { s with rxq := s.rxq ++ bytes })
    ⟨hq, hc, hd, hk⟩ hlow hval (by simp [elapse, hcnt])
  have hall := hframe.trans (w := goTo .rdWaitHigh (shiftIn true { s with rxq := s.rxq ++ bytes }))
    hbit
  rw [← Nat.mul_assoc, Nat.mul_comm bytes.length, ← Nat.add_assoc] at hall
  refine ⟨_, hall.2 hsched, ?_⟩
  simp [elapse, goTo, shiftIn, hi, hcnt, bit]

end Sys2Proof.Proofs.Reception
end

section
/-! The transmission of a queued payload (40_signal_engine.md R171 to R191). The core drives every
cycle of a frame, so the wire carries `pin_out` (`Drives`); a data bit reaches `WR_PAD_FAST` after
seven cycles however it is fetched (`nextBit_drives`, `nextByte_drives`, `firstByte_drives`), and
its cell is the same from there (`cell_drives`). The run is followed with `contention` set and
carried over to the other value of the flag by `flagVeil`. -/

open Sys2Proof Sys2Proof.Machine

namespace Sys2Proof.Proofs.Transmission

open Moves HostMoves Runs MicroStates Noninterference LineDirection

/-! ## Cycles in which the core drives -/

/-- Consecutive engine cycles, each driven by the core, and the levels of the wire in them. What a
cycle does must not depend on how much time has passed (`elapse`). -/
inductive Drives : List Bool → State → State → Prop
  | done (s : State) : Drives [] s s
  | cycle {s u w : State} {ls : List Bool} (hd : driving s = true) (hc : s.contention = true)
      (ha : ∀ m, EngineActs (elapse .engine m s) (elapse .engine m u)) (h : Drives ls u w) :
      Drives (s.pinOut :: ls) s w

theorem Drives.trans {ls ms : List Bool} {s u w : State} (h1 : Drives ls s u)
    (h2 : Drives ms u w) : Drives (ls ++ ms) s w := by
  induction h1 with
  | done => exact h2
  | cycle hd hc ha _ ih => exact .cycle hd hc ha (ih h2)

/-- A driven run is a run of the machine, and its levels are the trace of the wire. -/
theorem Drives.run {ls : List Bool} {s u : State} (h : Drives ls s u) (m : Nat)
    (ht : turnsOf .engine ls.length (elapse .engine m s)) :
    lineTrace ls.length (elapse .engine m s) = ls ∧
      runSteps ls.length (elapse .engine m s) = .next (elapse .engine (m + ls.length) u) := by
  induction h generalizing m with
  | done s => exact ⟨rfl, rfl⟩
  | @cycle s u w ls hd hc ha h ih =>
    rw [List.length_cons] at ht ⊢
    have hquiet : Settled (elapse .engine m s) := .inr hc
    have hstep : step (elapse .engine m s) = .next (elapse .engine (m + 1) u) := by
      rw [step_of_acts (turn_of_turnsOf ht) (ha m), closeCycle_of_settled hquiet (ha m),
        elapse_elapse]
    have hsched : u.sched = s.sched := by
      have h0 := acts_keeps_sched (ha 0)
      rwa [elapse_zero, elapse_zero] at h0
    have hleft : turnsOf .engine ls.length (elapse .engine (m + 1) u) := by
      rw [← elapse_elapse]
      refine turnsOf_right ?_ (Nat.add_comm _ 1 ▸ ht)
      rw [elapse_sched, elapse_sched, hsched]
    have hline : line (elapse .engine m s) = s.pinOut := line_of_driving hd
    obtain ⟨htrace, hrun⟩ := ih (m + 1) hleft
    rw [Nat.add_comm ls.length 1, ← Nat.add_assoc, ← hrun, runSteps_add (runSteps_one hstep)]
    exact ⟨by rw [Nat.add_comm 1, lineTrace, hstep, hline]; exact congrArg _ htrace, rfl⟩

/-! ## A core that sends -/

/-- The core drives the wire, and `contention` is set already. -/
structure Sends (s : State) : Prop where
  dir : s.dir = .output
  contention : s.contention = true
  k : 9 ≤ s.cfg.k

/-- A delay holds the level. -/
theorem Sends.delay {n : Nat} {s : State} (h : Sends s) (hu : s.cursor ≠ .unstarted)
    (hn : s.ctr = n) : Drives (List.replicate n s.pinOut) s { s with ctr := 0 } := by
  induction n generalizing s with
  | zero =>
    have hs : { s with ctr := 0 } = s := by rw [← hn]
    rw [hs]
    exact .done s
  | succ n ih =>
    have hacts : ∀ m, EngineActs (elapse .engine m s)
        (elapse .engine m { s with ctr := s.ctr - 1 }) := fun m =>
      .delay (s := elapse .engine m s) hu (by simp [elapse, hn])
    exact .cycle (driving_iff.mpr ⟨hu, h.dir⟩) h.contention hacts
      (ih (s := { s with ctr := s.ctr - 1 }) ⟨h.dir, h.contention, h.k⟩ hu (by simp [hn]))

/-- The engine acts at `q` with level `v` on the wire. -/
def acting (q : Cursor) (v : Bool) (s : State) : State :=
  { s with cursor := q, ctr := 0, pinOut := v }

/-- The bit last taken, the window and the transmit queue. -/
def loaded (x : Bool) (o : Word) (n : Nat) (txq : List Word) (s : State) : State :=
  { s with xbit := x, osr := o, osrCnt := n, txq := txq }

theorem Sends.loaded {s : State} (h : Sends s) (x : Bool) (o : Word) (n : Nat) (q : List Word) :
    Sends (loaded x o n q s) := ⟨h.dir, h.contention, h.k⟩

/-- An action of a core that sends, and the delay it asks for. -/
theorem Sends.acts {s t : State} (hs : Sends s) (ht : Sends t) (p : Cursor) (v : Bool) (c : Nat)
    (q : Cursor) (v' : Bool)
    (ha : ∀ m, EngineActs (elapse .engine m (acting p v s))
      (elapse .engine m { acting q v' t with ctr := c }))
    (hp : p ≠ .unstarted := by nofun) (hq : q ≠ .unstarted := by nofun) :
    Drives (v :: List.replicate c v') (acting p v s) (acting q v' t) :=
  .cycle (s := acting p v s) (driving_iff.mpr ⟨hp, hs.dir⟩) hs.contention ha <|
    Sends.delay (s := { acting q v' t with ctr := c }) ⟨ht.dir, ht.contention, ht.k⟩ hq rfl

/-! ## A bit is fetched -/

section
variable {s : State} (h : Sends s) {x : Bool} {o w : Word} {n : Nat} {q : List Word}
include h

/-- A bit of the window is taken in two cycles, and the window tested in a third. -/
theorem taken_drives : Drives (List.replicate 2 true)
    (acting .wrShift true (loaded x o (n + 1) q s))
    (acting (if n = 0 then .wrTestStop else .wrPadBit) true
      (loaded (o.getLsbD 31) (o <<< 1) n q s)) := by
  have h1 := h.loaded (o.getLsbD 31) (o <<< 1) n q
  have hshift := (h.loaded x o (n + 1) q).acts h1 .wrShift true 0 .wrTest9 true fun _ =>
    .shift rfl rfl (Nat.succ_ne_zero n)
  refine hshift.trans ?_
  by_cases hn : n = 0
  · rw [if_pos hn]
    exact h1.acts h1 .wrTest9 true 0 .wrTestStop true fun _ => .ninthBit rfl rfl hn
  · rw [if_neg hn]
    exact h1.acts h1 .wrTest9 true 0 .wrPadBit true fun _ => .dataBit rfl rfl hn

/-- An open window needs no word (R173). -/
theorem windowGoesOn_drives : Drives [true] (acting .wrPull true (loaded x o (n + 1) q s))
    (acting .wrShift true (loaded x o (n + 1) q s)) :=
  (h.loaded x o (n + 1) q).acts (h.loaded x o (n + 1) q) .wrPull true 0 .wrShift true fun _ =>
    .windowGoesOn rfl rfl (Nat.succ_ne_zero n)

/-- A data bit is padded to the length of a refill (R176). -/
theorem padBit_drives : Drives (List.replicate 4 true) (acting .wrPadBit true (loaded x o n q s))
    (acting .wrPadFast true (loaded x o n q s)) :=
  (h.loaded x o n q).acts (h.loaded x o n q) .wrPadBit true 3 .wrPadFast true fun _ =>
    .padBit rfl rfl

/-- Seven cycles fetch the next bit of an open window. -/
theorem nextBit_drives : Drives (List.replicate 7 true)
    (acting .wrPull true (loaded x o (n + 2) q s))
    (acting .wrPadFast true (loaded (o.getLsbD 31) (o <<< 1) (n + 1) q s)) :=
  (windowGoesOn_drives h).trans ((taken_drives h).trans (padBit_drives h))

/-- Seven cycles fetch the first bit of a frame. -/
theorem firstBit_drives : Drives (List.replicate 7 true)
    (acting .wrPull true (loaded x o 0 (w :: q) s))
    (acting .wrPadFast true (loaded (w.getLsbD 31) (w <<< 1) 8 q s)) := by
  have hpull := (h.loaded x o 0 (w :: q)).acts (h.loaded x w 9 q) .wrPull true 0 .wrShift true
    fun _ => .takesWord rfl (.inl ⟨rfl, rfl⟩) rfl
  exact hpull.trans ((taken_drives h).trans (padBit_drives h))

/-- The ninth bit of a word ends its window (R175). -/
theorem flag_drives : Drives (List.replicate 3 true)
    (acting .wrPull true (loaded x o 1 q s))
    (acting .wrTestStop true (loaded (o.getLsbD 31) (o <<< 1) 0 q s)) :=
  (windowGoesOn_drives h).trans (taken_drives h)

/-- Seven cycles fetch the first bit of the next word after a word that is not the last (R177 to
R180). -/
theorem nextByte_drives (ho : o.getLsbD 31 = false) : Drives (List.replicate 7 true)
    (acting .wrPull true (loaded x o 1 (w :: q) s))
    (acting .wrPadFast true (loaded (w.getLsbD 31) (w <<< 1) 8 q s)) := by
  have h1 := h.loaded (o.getLsbD 31) (o <<< 1) 0 (w :: q)
  have h2 := h.loaded (o.getLsbD 31) w 9 q
  have h3 := h.loaded (w.getLsbD 31) (w <<< 1) 8 q
  have htest := h1.acts h1 .wrTestStop true 0 .wrPull2 true fun _ => .moreBytes rfl rfl ho
  have hpull := h1.acts h2 .wrPull2 true 0 .wrShift2 true fun _ => .takesWord rfl (.inr rfl) rfl
  have hshift := h2.acts h3 .wrShift2 true 0 .wrJmpFast true fun _ =>
    .shift2 rfl rfl (Nat.succ_ne_zero 8)
  have hjmp := h3.acts h3 .wrJmpFast true 0 .wrPadFast true fun _ => .jmpFast rfl rfl
  exact (flag_drives h).trans (htest.trans (hpull.trans (hshift.trans hjmp)))

end

/-! ## Cells -/

theorem replicate_append_cons (n : Nat) (v : Bool) (ls : List Bool) :
    List.replicate n v ++ v :: ls = List.replicate (n + 1) v ++ ls := by
  rw [List.replicate_succ', List.append_assoc]
  rfl

/-- The levels of a cell by the actions they belong to: `m` cycles of fetching or testing, then
the padding, the low pulse and the value, each an action with its delay, and two actions that end
the cell. -/
theorem drivenCell_eq {c : Config} (hk : 9 ≤ c.k) (v : Bool) {m : Nat} (hm : m ≤ 7) :
    drivenCell c v = List.replicate m true ++ (true :: List.replicate (lenC3 c - (m + 2)) true ++
      (true :: List.replicate (lenC1 c - 1) false ++
        (false :: List.replicate (lenC2 c - 2) v ++ [v, v]))) := by
  have h3 : lenC3 c = m + 1 + (lenC3 c - (m + 2) + 1) := by rw [lenC3_eq]; omega
  have h1 : lenC1 c = lenC1 c - 1 + 1 := by rw [lenC1_eq]; omega
  have h2 : lenC2 c = lenC2 c - 2 + 1 + 1 := by rw [lenC2_eq]; omega
  conv_lhs => rw [drivenCell, h3, h1, h2, List.replicate_add (m + 1)]
  simp only [List.append_assoc, List.cons_append, replicate_append_cons, List.append_nil]

section
variable {s : State} (h : Sends s) {x : Bool} {o w : Word} {n : Nat} {q : List Word}
include h

/-- A data cell, however its bit is fetched (R182 to R186). -/
theorem cell_drives {u : State}
    (hu : Drives (List.replicate 7 true) u (acting .wrPadFast true (loaded x o n q s))) :
    Drives (drivenCell s.cfg x) u (acting .wrPull true (loaded x o n q s)) := by
  have h0 := h.loaded x o n q
  have hpad := h0.acts h0 .wrPadFast true (lenC3 s.cfg - 9) .wrLow true fun _ => .padFast rfl rfl
  have hlow := h0.acts h0 .wrLow true (lenC1 s.cfg - 1) .wrVal false fun _ => .dataCell rfl rfl
  have hval := h0.acts h0 .wrVal false (lenC2 s.cfg - 2) .wrLoop x fun _ => .value rfl rfl
  have hloop := h0.acts h0 .wrLoop x 0 .wrHigh x fun _ => .nextCell rfl rfl
  have hhigh := h0.acts h0 .wrHigh x 0 .wrPull true fun _ => .wrHigh rfl rfl
  rw [drivenCell_eq h.k x (le_refl 7)]
  exact hu.trans (hpad.trans (hlow.trans (hval.trans (hloop.trans hhigh))))

/-- The stop cell, and the entry into read mode in its last cycle (R187 to R189, R164). -/
theorem stopCell_drives (ho : o.getLsbD 31 = true) : Drives (drivenCell s.cfg true)
    (acting .wrPull true (loaded x o 1 q s))
    (setDir .input .rdWaitHigh (acting .rdEntry true (loaded true (o <<< 1) 0 q s))) := by
  have h0 := h.loaded true (o <<< 1) 0 q
  have htest := h0.acts h0 .wrTestStop true 0 .wrPadStop true fun _ => .lastByte rfl rfl rfl
  have hpad := h0.acts h0 .wrPadStop true (lenC3 s.cfg - 6) .wrStopLow true fun _ =>
    .padStop rfl rfl
  have hlow := h0.acts h0 .wrStopLow true (lenC1 s.cfg - 1) .wrStopHigh false fun _ =>
    .stopCell rfl rfl
  have hhigh := h0.acts h0 .wrStopHigh false (lenC2 s.cfg - 2) .wrToRead true fun _ =>
    .stopHigh rfl rfl
  have hread := h0.acts h0 .wrToRead true 0 .rdEntry true fun _ => .toRead rfl rfl
  have hentry := Drives.cycle (s := acting .rdEntry true (loaded true (o <<< 1) 0 q s))
    (driving_iff.mpr ⟨nofun, h.dir⟩) h.contention (fun _ => .rdEntry rfl rfl)
    (.done (setDir .input .rdWaitHigh (acting .rdEntry true (loaded true (o <<< 1) 0 q s))))
  have hflag := flag_drives (x := x) (o := o) (q := q) h
  rw [ho] at hflag
  rw [drivenCell_eq h.k true (m := 4) (by decide)]
  exact hflag.trans (htest.trans (hpad.trans (hlow.trans (hhigh.trans (hread.trans hentry)))))

end

/-! ## Words and frames -/

/-- The top `n` bits of a word, in the order they are taken (R37). -/
def windowBits : Nat → Word → List Bool
  | 0, _ => []
  | n + 1, o => o.getLsbD 31 :: windowBits n (o <<< 1)

theorem windowBits_txWord (b : Byte) (last : Bool) :
    windowBits 9 (txWord b last) = wireBits b ++ [last] := by
  cases last <;> simp [windowBits, txWord, wireBits]

theorem txWords_cons (b : Byte) (bs : List Byte) :
    txWords (b :: bs) = txWord b bs.isEmpty :: txWords bs := by
  cases bs <;> rfl

section
variable {s : State} (h : Sends s)
include h

/-- The data bits left in a window, as cells: they leave its ninth bit. -/
theorem left_drives (left : List Bool) {flag x : Bool} {o : Word} {n : Nat} {q : List Word}
    (hw : windowBits n o = left ++ [flag]) :
    ∃ x' o', Drives (left.flatMap (drivenCell s.cfg)) (acting .wrPull true (loaded x o n q s))
      (acting .wrPull true (loaded x' o' 1 q s)) ∧ o'.getLsbD 31 = flag := by
  induction left generalizing n o x with
  | nil =>
    match n, hw with
    | 1, hw => exact ⟨x, o, .done _, (List.cons.inj hw).1⟩
    | n + 2, hw => nomatch (List.cons.inj hw).2
  | cons v left ih =>
    match n, hw with
    | n + 1, hw =>
      obtain ⟨rfl, hmore⟩ := List.cons.inj hw
      match n, hmore with
      | 0, hmore => simp [windowBits] at hmore
      | n + 1, hmore =>
        obtain ⟨x', o', hrest, hflag⟩ := ih hmore
        exact ⟨x', o', (cell_drives h (nextBit_drives h)).trans hrest, hflag⟩

/-- A byte whose first bit is being fetched: its cells, however the word was taken. -/
theorem byte_drives {b : Byte} {flag : Bool} {w : Word} {q : List Word} {u : State}
    (hw : w = txWord b flag)
    (hu : Drives (List.replicate 7 true) u
      (acting .wrPadFast true (loaded (w.getLsbD 31) (w <<< 1) 8 q s))) :
    ∃ x o, Drives ((wireBits b).flatMap (drivenCell s.cfg)) u
      (acting .wrPull true (loaded x o 1 q s)) ∧ o.getLsbD 31 = flag := by
  have hbits := windowBits_txWord b flag
  rw [← hw] at hbits
  obtain ⟨htop, hrest⟩ := List.cons.inj hbits
  have hfirst := cell_drives h hu
  rw [htop] at hfirst
  obtain ⟨x, o, hleft, hflag⟩ := left_drives h (wireBits b).tail hrest
  exact ⟨x, o, hfirst.trans hleft, hflag⟩

/-- A payload whose first bit is being fetched from its first word: its cells and the stop cell
(R190). -/
theorem frame_drives (bs : List Byte) {b : Byte} {w : Word} {u : State}
    (hw : w = txWord b bs.isEmpty)
    (hu : Drives (List.replicate 7 true) u
      (acting .wrPadFast true (loaded (w.getLsbD 31) (w <<< 1) 8 (txWords bs) s))) :
    ∃ o, Drives (drivenFrame s.cfg (b :: bs)) u
      (setDir .input .rdWaitHigh (acting .rdEntry true (loaded true o 0 [] s))) := by
  obtain ⟨x, o, hbyte, hflag⟩ := byte_drives h hw hu
  induction bs generalizing b w u x o with
  | nil => exact ⟨_, hbyte.trans (stopCell_drives h hflag)⟩
  | cons c bs ih =>
    rw [txWords_cons] at hbyte
    have hfetch := nextByte_drives (x := x) (w := txWord c bs.isEmpty) (q := txWords bs) h hflag
    obtain ⟨x', o', hnext, hflag'⟩ := byte_drives h rfl hfetch
    obtain ⟨o'', hrest⟩ := ih rfl hfetch x' o' hnext hflag'
    refine ⟨o'', ?_⟩
    have hframe : drivenFrame s.cfg (b :: c :: bs) =
        (wireBits b).flatMap (drivenCell s.cfg) ++ drivenFrame s.cfg (c :: bs) := by
      simp only [drivenFrame, List.flatMap_cons, List.flatMap_append, List.append_assoc]
    rw [hframe]
    exact hbyte.trans hrest

end

theorem drivenFrame_length (c : Config) (bs : List Byte) :
    (drivenFrame c bs).length = (8 * bs.length + 1) * (4 * c.k) := by
  have hcell : ∀ v, (drivenCell c v).length = 4 * c.k := fun v => by
    simp only [drivenCell, List.length_append, List.length_replicate, lenC1_eq, lenC2_eq, lenC3_eq]
    omega
  simp only [drivenFrame, List.length_append, List.length_flatMap (f := drivenCell c), hcell,
    List.map_const', List.sum_replicate, Reception.wireBits_length, smul_eq_mul]
  ring

/-! ## The two values of `contention` -/

theorem runSteps_succ {n : Nat} {s t : State} (h : runSteps (n + 1) s = .next t) :
    ∃ u, step s = .next u ∧ runSteps n u = .next t := by
  rw [runSteps] at h
  cases hs : step s <;> rw [hs] at h
  · exact ⟨_, rfl, h⟩
  · cases h
  · cases h

/-- A run from a state that differs in the sticky flags shows the same levels and ends alike. -/
theorem run_of_hide_eq {n : Nat} {s t t' : State} (h : flagVeil.hide s = flagVeil.hide t)
    (hrun : runSteps n t = .next t') :
    lineTrace n s = lineTrace n t ∧
      ∃ s', runSteps n s = .next s' ∧ flagVeil.hide s' = flagVeil.hide t' := by
  induction n generalizing s t with
  | zero =>
    cases hrun
    exact ⟨rfl, s, rfl, h⟩
  | succ n ih =>
    obtain ⟨t1, ht1, hrest⟩ := runSteps_succ hrun
    have hline : line s = line t := by
      rw [← hide_line (v := flagVeil) s, h, hide_line]
    have hstep := step_eq_of_hide_eq flagVeil_lawful h
    rw [ht1, onNext_next, onNext_eq_next] at hstep
    obtain ⟨s1, hs1, hhide⟩ := hstep
    obtain ⟨htrace, s', hs', hend⟩ := ih hhide.symm hrest
    refine ⟨?_, s', ?_, hend⟩
    · simp only [lineTrace, hs1, ht1, hline, htrace]
    · simpa only [runSteps, hs1] using hs'

/-! ## The obligation -/

theorem acting_self {s : State} {q : Cursor} {v : Bool} (hq : s.cursor = q) (hc : s.ctr = 0)
    (hp : s.pinOut = v) : acting q v s = s := by
  subst hq hp
  rw [acting, ← hc]

theorem loaded_self {s : State} {n : Nat} {q : List Word} (hn : s.osrCnt = n) (hq : s.txq = q) :
    loaded s.xbit s.osr n q s = s := by
  subst hn hq
  rfl

/-- The run of a queued payload, from `WR_HIGH` on. -/
theorem payload_drives {s : State} (h : Sends s) {payload : List Byte} (hne : payload ≠ [])
    (hq : s.cursor = .wrHigh) (hc : s.ctr = 0) (hp : s.pinOut = true) (hn : s.osrCnt = 0)
    (hw : s.txq = txWords payload) :
    ∃ o, Drives (true :: drivenFrame s.cfg payload) s
      (setDir .input .rdWaitHigh (acting .rdEntry true (loaded true o 0 [] s))) := by
  cases payload with
  | nil => exact absurd rfl hne
  | cons b bs =>
    rw [txWords_cons] at hw
    have h0 := h.loaded s.xbit s.osr 0 (txWord b bs.isEmpty :: txWords bs)
    have hhigh := h0.acts h0 .wrHigh true 0 .wrPull true fun _ => .wrHigh rfl rfl
    obtain ⟨o, hframe⟩ := frame_drives h bs rfl (firstBit_drives (x := s.xbit) (o := s.osr) h)
    have hall := hhigh.trans hframe
    rw [loaded_self hn hw, acting_self hq hc hp] at hall
    exact ⟨o, hall⟩

/-- Settles O30: followed with `contention` set, the run drives one cycle of `WR_HIGH` and the
frame. -/
theorem queuedPayloadIsDrivenAsOneGapFreeFrame :
    Obligations.QueuedPayloadIsDrivenAsOneGapFreeFrame := by
  rintro s payload n hne hcfg hq hc hd hp hn hw rfl hsched
  have hk : 9 ≤ s.cfg.k := (HostOperations.configOk_iff.mp hcfg).1
  obtain ⟨o, hdrives⟩ := payload_drives (s := { s with contention := true }) ⟨hd, rfl, hk⟩ hne hq hc
    hp hn hw
  have hlen : (true :: drivenFrame s.cfg payload).length =
      1 + (8 * payload.length + 1) * (4 * s.cfg.k) := by
    rw [List.length_cons, drivenFrame_length, Nat.add_comm]
  have hrun := hdrives.run 0
  rw [hlen, elapse_zero] at hrun
  obtain ⟨htrace, hend⟩ := hrun hsched
  have hhide : flagVeil.hide s = flagVeil.hide { s with contention := true } := by
    rw [flagVeil_hide]
  obtain ⟨hsame, t, ht, hlike⟩ := run_of_hide_eq hhide hend
  rw [flagVeil_hide] at hlike
  have hnow : t.now = s.now + (0 + _) := (congrArg State.now hlike :)
  rw [Nat.zero_add] at hnow
  exact ⟨hsame.trans htrace, t, ht, (congrArg State.cursor hlike :), (congrArg State.ctr hlike :),
    (congrArg State.dir hlike :), (congrArg State.pinOut hlike :),
    (congrArg State.osrCnt hlike :), (congrArg State.txq hlike :), (congrArg State.rxq hlike :),
    (congrArg State.isr hlike :), (congrArg State.isrCnt hlike :), hnow⟩

end Sys2Proof.Proofs.Transmission
end
